-- ==== Sys2Proof/Word.lean ====
section
/-! DEFINITION. The words of the FS-8's window: bytes on D7-D0, locations on A5-A0, and the 16-bit values. -/

namespace Sys2Proof

/-- A byte as D7-D0 carry it and as a setting of the window holds it. -/
abbrev Byte := BitVec 8

/-- One of the 64 locations that A5-A0 select. -/
abbrev Loc := BitVec 6

/-- The millisecond counter and the CRC register are 16 bits wide (R2, R151). -/
abbrev Half := BitVec 16

end Sys2Proof
end

