-- ==== Sys2Proof/Config.lean ====
section
/-! DEFINITION. What the spec leaves open, as constants without a body, and the capacities it fixes. -/

namespace Sys2Proof

/-- FREE VALUE (log 3): where, among the events one tick end brings about, the next one is taken. The spec lets
either of two events that fall together be taken first (R8, R46, R52, R127). Applied to `State.free`. -/
opaque Config.eventOrder : Nat → Nat

/-- FREE VALUE (log 4): whether a due grant is taken now or after a further CLKIN period. The spec fixes no delay
between the event that makes a grant due and the grant but R79's "few ticks" (`Config.grantTicks`). Applied to
`State.free`. -/
opaque Config.grantTaken : Nat → Bool

/-- The most tick ends that pass while a grant is due. DESIGN CHOICE 2 (log 4): R79 has three successive grants "within a
few ticks of one another" and gives no number; with 2 for each grant they lie at most four tick ends apart. -/
def Config.grantTicks : Nat := 2

/-- The event log keeps up to sixteen records (R126). -/
def Config.logCapacity : Nat := 16

/-- The shed stack keeps up to four branches (R94). -/
def Config.stackCapacity : Nat := 4

/-- Ticks in a millisecond (R2). -/
def Config.ticksPerMs : Nat := 1000

end Sys2Proof
end

