-- ==== Sys2Proof/Syntax.lean ====
section
/-! DEFINITION. The commands of the FS-8, one constructor for each row of spec/opcode_table.json, and the names
their operands are made of. -/

namespace Sys2Proof

/-- Branches are numbered 1 to 8 (00_scope.md, 6.2). `Fin` value k stands for branch number k + 1. -/
abbrev Branch := Fin 8

/-- The number 1 to 8 that the manual gives a branch. -/
def branchNumber (b : Branch) : Nat := b.val + 1

/-- The branch that a number names; 0 and numbers above 8 name none (00_scope.md, 6.2). -/
def branchOf (n : Nat) : Option Branch :=
  if h : 1 ≤ n ∧ n ≤ 8 then some ⟨n - 1, by omega⟩ else none

/-- The eight profile locations 04h to 0Bh (section 2.1.1). -/
inductive ProfileField where
  | priority | budget | deadbase | options | ocqual | blank | rise | settle
  deriving DecidableEq, Repr

/-- The two stress inputs SUPOVL# and BUSLO# (R87). -/
inductive StressInput where
  | supovl | buslo
  deriving DecidableEq, Repr

/-- The commands: what the host, the attached circuit and the part's own timers and arbiter bring to the part.
Each docstring names the row of spec/opcode_table.json and its rule. -/
inductive Instr where
  /-- CLOSE (R24), a write of 01h to CMD. -/
  | close
  /-- OPEN (R27), a write of 02h to CMD. -/
  | openBranch
  /-- REARM (R67), a write of 03h to CMD. -/
  | rearm
  /-- ALLOFF (R114), a write of 10h to CMD. -/
  | allOff
  /-- RESTART (R118), a write of 11h to CMD. -/
  | restart
  /-- SIGN (R150), a write of 20h to CMD. -/
  | sign
  /-- DIGESTCLR (R142), a write of 30h to CMD. -/
  | digestClr
  /-- LOGADV (R134), a write of 31h to CMD. -/
  | logAdv
  /-- LOGCLR (R135), a write of 32h to CMD. -/
  | logClr
  /-- UNKNOWN_COMMAND (R164), a write of any other value to CMD. -/
  | unknownCommand (code : Byte)
  /-- MSLO_READ (R6), a read of 29h. -/
  | msloRead
  /-- LOGDATA_READ (R132), a read of 20h. -/
  | logdataRead
  /-- PROFILE_WRITE (R12), a write to 04h-0Bh, which reach the branch that BPTR names. -/
  | profileWrite (field : ProfileField) (value : Byte)
  /-- PRESCALE_WRITE (R4), a write to 10h. -/
  | prescaleWrite (value : Byte)
  /-- SLOTS_WRITE (R76), a write to 11h. -/
  | slotsWrite (value : Byte)
  /-- IRQPEND_ACKNOWLEDGE (R146), a write to 27h. -/
  | irqpendAcknowledge (value : Byte)
  /-- IRQEN_WRITE (R147), a write to 28h. -/
  | irqenWrite (value : Byte)
  /-- LOGTHR_WRITE (R137), a write to 18h. -/
  | logthrWrite (value : Byte)
  /-- REGISTER_WRITE (R166), a write to any other location. -/
  | registerWrite (loc : Loc) (value : Byte)
  /-- SC_ASSERTION (R35). -/
  | scAssertion (n : Branch)
  /-- SC_RELEASE (R38). -/
  | scRelease (n : Branch)
  /-- OC_ASSERTION (R48). -/
  | ocAssertion (n : Branch)
  /-- OC_RELEASE (R49). -/
  | ocRelease (n : Branch)
  /-- PG_ASSERTION (R42). -/
  | pgAssertion (n : Branch)
  /-- PG_RELEASE (R50). -/
  | pgRelease (n : Branch)
  /-- STRESS_INPUT_ASSERTION (R87). -/
  | stressInputAssertion (input : StressInput)
  /-- STRESS_INPUT_RELEASE (R88). -/
  | stressInputRelease (input : StressInput)
  /-- ESTOP_ASSERTION (R111). -/
  | estopAssertion
  /-- ESTOP_RELEASE (R117). -/
  | estopRelease
  /-- RESET_ASSERTION (R121). -/
  | resetAssertion
  /-- HARDWARE_RESET (R122), the release of RESET#. -/
  | hardwareReset
  /-- MILLISECOND_BOUNDARY (R2). -/
  | millisecondBoundary
  /-- OC_QUALIFY_EXPIRY (R49). -/
  | ocQualifyExpiry (n : Branch)
  /-- PG_LOSS_EXPIRY (R51). -/
  | pgLossExpiry (n : Branch)
  /-- BLANKING_EXPIRY (R41). -/
  | blankingExpiry (n : Branch)
  /-- RISE_EXPIRY (R44). -/
  | riseExpiry (n : Branch)
  /-- DEAD_EXPIRY (R61). -/
  | deadExpiry (n : Branch)
  /-- SETTLE_EXPIRY (R64). -/
  | settleExpiry (n : Branch)
  /-- STAGGER_EXPIRY (R80). -/
  | staggerExpiry
  /-- STRESS_QUALIFY_EXPIRY (R88). -/
  | stressQualifyExpiry
  /-- SHED_INTERVAL_EXPIRY (R92). -/
  | shedIntervalExpiry
  /-- HOLD_EXPIRY (R93). -/
  | holdExpiry
  /-- RESTORE_SPACING_EXPIRY (R104). -/
  | restoreSpacingExpiry
  /-- SIGNATURE_RECORD_EXPIRY (R152). -/
  | signatureRecordExpiry
  /-- GRANT (R78). -/
  | grant
  deriving DecidableEq, Repr

/-- One access of the host bus (R157, R158). -/
inductive BusAccess where
  | read (loc : Loc) | write (loc : Loc) (value : Byte)
  deriving DecidableEq, Repr

/-- The levels the host puts on the bus (00_scope.md, section 5): strobes as asserted or not, A5-A0 and D7-D0. -/
structure BusPins where
  cs : Bool
  rd : Bool
  wr : Bool
  addr : Loc
  data : Byte
  deriving DecidableEq, Repr

end Sys2Proof
end

