-- ==== Sys2Proof/Machine/State.lean ====
section
/-! DEFINITION. Everything the spec gives the FS-8 to hold, block by block, and its values right after hardware
reset. INVENTORY.md lists each field with its rule. Outputs that the spec defines as a function of this state (ONn,
INT#, the digest code, the in-flight flag, the log condition, the due grant) are computed in Machine/Flags.lean. -/

namespace Sys2Proof.Machine

/-- A timer: not running, or the number of ticks it must still count (R7). `some 0` is a timer whose expiry has come
and has not been taken yet. -/
abbrev Timer := Option Nat

/-- The seven branch states (section 2.4). -/
inductive BranchState where
  | off | queued | inrush | on | dead | lockout | shed
  deriving DecidableEq, Repr

/-- The causes a trip can have (R17, section 3.3). -/
inductive TripCause where
  | sc | oc | norise | pgloss
  deriving DecidableEq, Repr

/-- The profile of a branch (section 2.1.1). OPTIONS is its two flags (R11). -/
structure Profile where
  priority : Byte
  budget : Byte
  deadbase : Byte
  escalation : Bool
  autoStart : Bool
  ocqual : Byte
  blank : Byte
  rise : Byte
  settle : Byte
  deriving DecidableEq, Repr

/-- The record of one branch (section 2.1), its level records (R32) and its six timers (R7). -/
structure BranchRec where
  profile : Profile
  state : BranchState
  attempts : Nat
  lastCause : Option TripCause
  scLevel : Bool
  ocLevel : Bool
  pgLevel : Bool
  blanking : Timer
  rise : Timer
  ocQualify : Timer
  pgLoss : Timer
  dead : Timer
  settle : Timer
  deriving DecidableEq, Repr

/-- The timebase (section 1.1). `tickLength` is the length of the tick in progress, which a PRESCALE write does not
change (R5, log 12). -/
structure Timebase where
  prescale : Byte
  divider : Nat
  tickLength : Nat
  subMs : Nat
  ms : Half
  mshi : Byte
  deriving DecidableEq, Repr

/-- The close queue, head first, and the inrush arbiter (chapter 5). -/
structure Arbiter where
  queue : List Branch
  inrushCount : Nat
  slots : Byte
  stagger : Byte
  staggerTimer : Timer
  deriving DecidableEq, Repr

/-- The load manager's four states (section 6.2). -/
inductive LoadState where
  | calm | shedding | hold | restoring
  deriving DecidableEq, Repr

/-- The stress qualifier, the load manager and the shed stack, top first (chapter 6). -/
structure LoadManager where
  supovl : Bool
  buslo : Bool
  qualifyTimer : Timer
  qualified : Bool
  mode : LoadState
  stack : List Branch
  inFlight : Option Branch
  exhausted : Bool
  shedTimer : Timer
  holdTimer : Timer
  spacingTimer : Timer
  stressqual : Byte
  shedivl : Byte
  holdTime : Byte
  rspace : Byte
  deriving DecidableEq, Repr

/-- The nine record kinds (R124). -/
inductive RecordKind where
  | trip | lockout | shed | restore | drop | exhausted | allOff | restart | recall
  deriving DecidableEq, Repr

/-- The six record causes (R124): a trip cause, or what brought an all-off about. -/
inductive RecordCause where
  | trip (cause : TripCause) | pin | command
  deriving DecidableEq, Repr

/-- The branch state at a trip decision (R34, R124). -/
inductive Phase where
  | inrush | on
  deriving DecidableEq, Repr

/-- One record of the event log (R124). An absent field is `none`. -/
structure LogRecord where
  seq : Byte
  kind : RecordKind
  branch : Option Branch
  cause : Option RecordCause
  detail : Nat
  phase : Option Phase
  time : Half
  gap : Option Byte
  deriving DecidableEq, Repr

/-- What a block supplies when it offers a record to the log (R124, R125). -/
structure Offer where
  kind : RecordKind
  branch : Option Branch
  cause : Option RecordCause
  detail : Nat
  phase : Option Phase
  deriving DecidableEq, Repr

/-- The event log (chapter 8), oldest record first. -/
structure EventLog where
  records : List LogRecord
  seq : Byte
  lost : Byte
  idx : Fin 9
  thr : Byte
  deriving DecidableEq, Repr

/-- The trip digest (section 9.1); the trip set is held as eight memberships. -/
structure Digest where
  trips : Vector Bool 8
  first : Option Branch
  deriving DecidableEq, Repr

/-- The five latched interrupt sources (R144). -/
inductive Source where
  | trip | lock | shedLoss | stress | sign
  deriving DecidableEq, Repr

/-- The pending set over the latched sources (section 9.2). -/
structure PendingSet where
  trip : Bool
  lock : Bool
  shedLoss : Bool
  stress : Bool
  sign : Bool
  deriving DecidableEq, Repr

/-- The enable set over the six sources (section 9.2). -/
structure EnableSet where
  log : Bool
  trip : Bool
  lock : Bool
  shedLoss : Bool
  stress : Bool
  sign : Bool
  deriving DecidableEq, Repr

/-- The interrupt unit (section 9.2). -/
structure Interrupts where
  pending : PendingSet
  enable : EnableSet
  deriving DecidableEq, Repr

/-- The five states of the signature engine (chapter 10). -/
inductive SignState where
  | idle | running | done | stale | aborted
  deriving DecidableEq, Repr

/-- The profile signature engine (chapter 10). -/
structure Signature where
  state : SignState
  first : Branch
  last : Branch
  progress : Option Branch
  crc : Half
  timer : Timer
  deriving DecidableEq, Repr

/-- The result codes (R165). -/
inductive ResultCode where
  | none | done | wrongState | badArg | busy | held | unknown
  deriving DecidableEq, Repr

/-- The write-status codes (R166). -/
inductive WriteStatus where
  | ok | locked | range | active | readonly
  deriving DecidableEq, Repr

/-- The positions VIEWSEL can select: 00h-07h in the close queue, 10h-13h on the shed stack (R162). -/
inductive ViewSel where
  | queue (position : Fin 8) | stack (position : Fin 4)
  deriving DecidableEq, Repr

/-- The host window's own state (chapter 11). `dataOut` is the value of the last read taken, which the part puts on D7-D0
while it drives them, `driving` (R157, R158, log 14). -/
structure Window where
  bptr : Branch
  arg0 : Byte
  arg1 : Byte
  result : ResultCode
  wstat : WriteStatus
  viewsel : ViewSel
  dataOut : Byte
  driving : Bool
  deriving DecidableEq, Repr

/-- The input pins (00_scope.md, section 5); `true` is asserted, and for CLKIN running (log 8, log 9). `bus` is CS#, RD#,
WR#, A5-A0 and D7-D0 as the host drives them (R157, R158, log 18). -/
structure Pins where
  sc : Vector Bool 8
  oc : Vector Bool 8
  pg : Vector Bool 8
  supovl : Bool
  buslo : Bool
  estop : Bool
  reset : Bool
  clkin : Bool
  bus : BusPins
  deriving DecidableEq, Repr

/-- The FS-8. The last three fields are the model's own: `free` counts the free values used (log 3, log 4), `grantWait`
the tick ends that have passed while a grant is due (log 4), and `pending` is the queue of commands (log 1). -/
structure State where
  time : Timebase
  branches : Vector BranchRec 8
  pgqual : Byte
  arbiter : Arbiter
  load : LoadManager
  estop : Bool
  log : EventLog
  digest : Digest
  irq : Interrupts
  sig : Signature
  window : Window
  pins : Pins
  free : Nat
  grantWait : Nat
  pending : List Instr
  deriving DecidableEq, Repr

/-- Faults. The spec gives every command an outcome in every state, so the part has none. -/
inductive Fault where
  deriving DecidableEq, Repr

/-- Refusals. -/
inductive Refusal where
  /-- Raised by an arm of `exec` whose command has no meaning yet; no arm does. Safe. -/
  | notModelled (mnemonic : String)
  deriving DecidableEq, Repr

/-- The hardware reset defaults of a profile (section 2.1.1). -/
def Profile.default : Profile :=
  { priority := 7, budget := 0, deadbase := 100, escalation := false, autoStart := false, ocqual := 25, blank := 20,
    rise := 50, settle := 50 }

/-- A branch after hardware reset, its input pins released (R31, R54, R69). -/
def BranchRec.default : BranchRec :=
  { profile := Profile.default, state := .off, attempts := 0, lastCause := none, scLevel := false, ocLevel := false,
    pgLevel := false, blanking := none, rise := none, ocQualify := none, pgLoss := none, dead := none, settle := none }

/-- The timebase after hardware reset (R9). -/
def Timebase.default : Timebase :=
  { prescale := 8, divider := 0, tickLength := 8, subMs := 0, ms := 0, mshi := 0 }

/-- The arbiter after hardware reset (R86). -/
def Arbiter.default : Arbiter :=
  { queue := [], inrushCount := 0, slots := 1, stagger := 10, staggerTimer := none }

/-- The load manager after hardware reset with no stress input asserted (R110). -/
def LoadManager.default : LoadManager :=
  { supovl := false, buslo := false, qualifyTimer := none, qualified := false, mode := .calm, stack := [],
    inFlight := none, exhausted := false, shedTimer := none, holdTimer := none, spacingTimer := none, stressqual := 2,
    shedivl := 20, holdTime := 30, rspace := 50 }

/-- The event log after hardware reset (R139). -/
def EventLog.default : EventLog := { records := [], seq := 0, lost := 0, idx := 0, thr := 1 }

/-- The empty trip digest (R142, R143). -/
def Digest.default : Digest := { trips := Vector.replicate 8 false, first := none }

/-- The interrupt unit after hardware reset (R149). -/
def Interrupts.default : Interrupts :=
  { pending := { trip := false, lock := false, shedLoss := false, stress := false, sign := false },
    enable := { log := false, trip := false, lock := false, shedLoss := false, stress := false, sign := false } }

/-- The signature engine after hardware reset (R156); the range is DESIGN CHOICE branch 1 (log 13). -/
def Signature.default : Signature :=
  { state := .idle, first := 0, last := 0, progress := none, crc := 0, timer := none }

/-- The window after hardware reset (R170); `dataOut` is DESIGN CHOICE 00h (log 14), and D7-D0 are not driven. -/
def Window.default : Window :=
  { bptr := 0, arg0 := 0, arg1 := 0, result := .none, wstat := .ok, viewsel := .queue 0, dataOut := 0,
    driving := false }

/-- Every input released, CLKIN running, A5-A0 and D7-D0 at 0: DESIGN CHOICE (log 8, log 9). -/
def Pins.default : Pins :=
  { sc := Vector.replicate 8 false, oc := Vector.replicate 8 false, pg := Vector.replicate 8 false, supovl := false,
    buslo := false, estop := false, reset := false, clkin := true,
    bus := { cs := false, rd := false, wr := false, addr := 0, data := 0 } }

/-- The part right after a hardware reset with every input released (R122). -/
def State.reset : State :=
  { time := Timebase.default, branches := Vector.replicate 8 BranchRec.default, pgqual := 5,
    arbiter := Arbiter.default, load := LoadManager.default, estop := false, log := EventLog.default,
    digest := Digest.default, irq := Interrupts.default, sig := Signature.default, window := Window.default,
    pins := Pins.default, free := 0, grantWait := 0, pending := [] }

end Sys2Proof.Machine
end

