-- ==== Sys2Proof/Machine/Operands.lean ====
section
/-! DEFINITION. The operand forms: branch arguments, the ranges of the writable locations, what a profile write stores
and the duration of every timer in ticks (the table under R8). -/

namespace Sys2Proof.Machine

/-! ### Branches -/

/-- Branch 1 to 8 as ARG0 and ARG1 may name it (R24, R27, R67, R150). -/
def branchArgument (v : Byte) : Option Branch := branchOf v.toNat

/-- All branches in ascending number. -/
def allBranches : List Branch := List.finRange 8

/-! ### Ranges -/

/-- The ranges of the profile fields (R12). OPTIONS takes its two flags and nothing else (R11, R168). -/
def fieldInRange (f : ProfileField) (v : Byte) : Bool :=
  match f with
  | .priority | .budget => decide (v.toNat ≤ 7)
  | .options => decide (v.toNat ≤ 3)
  | .ocqual => true
  | .deadbase | .blank | .rise | .settle => decide (1 ≤ v.toNat)

/-- The field that a profile write stores (R13). -/
def Profile.store (p : Profile) (f : ProfileField) (v : Byte) : Profile :=
  match f with
  | .priority => { p with priority := v }
  | .budget => { p with budget := v }
  | .deadbase => { p with deadbase := v }
  | .options => { p with escalation := v.getLsbD 0, autoStart := v.getLsbD 1 }
  | .ocqual => { p with ocqual := v }
  | .blank => { p with blank := v }
  | .rise => { p with rise := v }
  | .settle => { p with settle := v }

/-- The weight of bit k of a packed location: 2^k if the item is set (R167). -/
def bitAt (b : Bool) (k : Nat) : Nat := if b then 2 ^ k else 0

/-- What a read of a profile location returns (R10, R11). -/
def Profile.fetch (p : Profile) (f : ProfileField) : Byte :=
  match f with
  | .priority => p.priority
  | .budget => p.budget
  | .deadbase => p.deadbase
  | .options => BitVec.ofNat 8 (bitAt p.escalation 0 + bitAt p.autoStart 1)
  | .ocqual => p.ocqual
  | .blank => p.blank
  | .rise => p.rise
  | .settle => p.settle

/-- PRESCALE takes 1 to 32 (R4). -/
def prescaleInRange (v : Byte) : Bool := decide (1 ≤ v.toNat ∧ v.toNat ≤ 32)

/-- SLOTS takes 1 to 3 (R76). -/
def slotsInRange (v : Byte) : Bool := decide (1 ≤ v.toNat ∧ v.toNat ≤ 3)

/-- LOGTHR takes 1 to 16 (R137). -/
def logthrInRange (v : Byte) : Bool := decide (1 ≤ v.toNat ∧ v.toNat ≤ 16)

/-- PGQUAL, SHEDIVL, HOLD and RSPACE take 1 to 255 (R53, R109). -/
def nonzeroInRange (v : Byte) : Bool := decide (1 ≤ v.toNat)

/-- IRQPEND and IRQEN take values that name the six sources and nothing else (R146, R147, R168). -/
def sourcesInRange (v : Byte) : Bool := decide (v.toNat ≤ 0x3F)

/-- VIEWSEL takes 00h to 07h and 10h to 13h (R162). -/
def viewselOf (v : Byte) : Option ViewSel :=
  if h : v.toNat ≤ 7 then some (.queue ⟨v.toNat, by omega⟩)
  else if h : 0x10 ≤ v.toNat ∧ v.toNat ≤ 0x13 then some (.stack ⟨v.toNat - 0x10, by omega⟩)
  else none

/-- BPTR takes 1 to 8 (R161). -/
def bptrOf (v : Byte) : Option Branch := branchOf v.toNat

/-- LOGIDX takes 0 to 8 (R133). -/
def logidxOf (v : Byte) : Option (Fin 9) := if h : v.toNat ≤ 8 then some ⟨v.toNat, by omega⟩ else none

/-! ### Interrupt sources by their bits (R167) -/

/-- The enable set that a value names (R147). -/
def EnableSet.named (v : Byte) : EnableSet :=
  { log := v.getLsbD 0, trip := v.getLsbD 1, lock := v.getLsbD 2, shedLoss := v.getLsbD 3, stress := v.getLsbD 4,
    sign := v.getLsbD 5 }

/-- The pending set less the latched sources that a value names (R146). -/
def PendingSet.acknowledge (p : PendingSet) (v : Byte) : PendingSet :=
  { trip := p.trip && !v.getLsbD 1, lock := p.lock && !v.getLsbD 2, shedLoss := p.shedLoss && !v.getLsbD 3,
    stress := p.stress && !v.getLsbD 4, sign := p.sign && !v.getLsbD 5 }

/-! ### Timer durations in ticks (R7; the table under R8) -/

/-- OCQUAL x 4 us (R48). -/
def ocQualifyTicks (p : Profile) : Nat := p.ocqual.toNat * 4

/-- PGQUAL x 1 ms (R50). -/
def pgLossTicks (pgqual : Byte) : Nat := pgqual.toNat * Config.ticksPerMs

/-- BLANK x 1 ms (R40). -/
def blankingTicks (p : Profile) : Nat := p.blank.toNat * Config.ticksPerMs

/-- RISE x 1 ms (R40). -/
def riseTicks (p : Profile) : Nat := p.rise.toNat * Config.ticksPerMs

/-- DEADBASE x 10 ms, doubled for each attempt after the first when the escalation flag is set (R59). -/
def deadTicks (p : Profile) (attempt : Nat) : Nat :=
  p.deadbase.toNat * (10 * Config.ticksPerMs) * (if p.escalation then 2 ^ (attempt - 1) else 1)

/-- SETTLE x 100 ms (R63). -/
def settleTicks (p : Profile) : Nat := p.settle.toNat * (100 * Config.ticksPerMs)

/-- STAGGER x 1 ms (R78). -/
def staggerTicks (a : Arbiter) : Nat := a.stagger.toNat * Config.ticksPerMs

/-- STRESSQUAL x 1 ms (R88). -/
def stressQualifyTicks (l : LoadManager) : Nat := l.stressqual.toNat * Config.ticksPerMs

/-- SHEDIVL x 10 ms (R91, R92). -/
def shedIntervalTicks (l : LoadManager) : Nat := l.shedivl.toNat * (10 * Config.ticksPerMs)

/-- The HOLD setting x 100 ms (R92). -/
def holdTicks (l : LoadManager) : Nat := l.holdTime.toNat * (100 * Config.ticksPerMs)

/-- RSPACE x 10 ms (R104). -/
def restoreSpacingTicks (l : LoadManager) : Nat := l.rspace.toNat * (10 * Config.ticksPerMs)

/-- 16 us for each record of a signature operation (R150, R152). -/
def signatureTicks : Nat := 16

end Sys2Proof.Machine
end

