-- ==== Sys2Proof/Machine/Flags.lean ====
section
/-! DEFINITION. Everything the spec gives as a function of the state: the ONn and INT# outputs, the conditions that
blocks read from one another, and the numeric codes of the packed locations. -/

namespace Sys2Proof.Machine

/-! ### Branches -/

/-- The record of a branch. -/
def State.br (s : State) (b : Branch) : BranchRec := s.branches[b]

/-- ONn is asserted exactly in INRUSH and ON, and never while RESET# is asserted (R21, R121). -/
def State.onOut (s : State) (b : Branch) : Bool :=
  !s.pins.reset && ((s.br b).state == .inrush || (s.br b).state == .on)

/-- The in-flight flag mirrors the load manager's in-flight branch (R18). -/
def State.inFlightFlag (s : State) (b : Branch) : Bool := s.load.inFlight == some b

/-- Blanking is done exactly when the branch is in INRUSH and its blanking timer is not running (section 3.1). -/
def BranchRec.blankingDone (r : BranchRec) : Bool := r.state == .inrush && r.blanking == none

/-- The states that count as active for PRESCALE and SLOTS, and that an all-off changes (R4, R76, R113). -/
def BranchState.active : BranchState → Bool
  | .queued | .inrush | .on | .dead | .shed => true
  | .off | .lockout => false

/-- Some branch is in QUEUED, INRUSH, ON, DEAD or SHED (R4, R76). -/
def State.someActive (s : State) : Bool := allBranches.any fun b => (s.br b).state.active

/-- The number of branches whose state an all-off changes (R113). -/
def State.activeCount (s : State) : Nat := allBranches.countP fun b => (s.br b).state.active

/-- The number of branches whose auto-start flag is set (R119). -/
def State.autoStartCount (s : State) : Nat := allBranches.countP fun b => (s.br b).profile.autoStart

/-- The PRIORITY of a branch as a number. -/
def State.priority (s : State) (b : Branch) : Nat := (s.br b).profile.priority.toNat

/-! ### Supply stress and grants -/

/-- Raw stress: at least one of the two level records is asserted (R87). -/
def LoadManager.rawStress (l : LoadManager) : Bool := l.supovl || l.buslo

/-- The level record of one stress input (R87). -/
def LoadManager.level (l : LoadManager) : StressInput → Bool
  | .supovl => l.supovl
  | .buslo => l.buslo

/-- The level record of the other stress input (R87). -/
def LoadManager.otherLevel (l : LoadManager) : StressInput → Bool
  | .supovl => l.buslo
  | .buslo => l.supovl

/-- The grant condition: an entry, a free slot, no stagger timer, no qualified stress (R77). While it holds, a grant
is due (log 15). -/
def State.grantCondition (s : State) : Bool :=
  !s.arbiter.queue.isEmpty && decide (s.arbiter.inrushCount < s.arbiter.slots.toNat)
    && s.arbiter.staggerTimer.isNone && !s.load.qualified

/-- A better victim than `best` among the ON branches: PRIORITY 1 or more, a larger PRIORITY, and for equal PRIORITY
the larger number, since branches are examined in ascending number (R97). -/
def State.betterVictim (s : State) (best : Option Branch) (b : Branch) : Option Branch :=
  if (s.br b).state = .on ∧ 1 ≤ s.priority b then
    match best with
    | none => some b
    | some v => if s.priority v ≤ s.priority b then some b else some v
  else best

/-- The victim of a shed step, if any (R97). -/
def State.victim (s : State) : Option Branch := allBranches.foldl s.betterVictim none

/-! ### Log condition, digest and INT# -/

/-- The log condition: the records held reach LOGTHR (R138). -/
def EventLog.condition (l : EventLog) : Bool := decide (l.thr.toNat ≤ l.records.length)

/-- The trip set as branch numbers in ascending order. -/
def Digest.members (d : Digest) : List Branch := allBranches.filter fun b => d.trips[b]

/-- The digest code: 0, the one branch, or 15 (R141). -/
def Digest.code (d : Digest) : Nat :=
  match d.members with
  | [] => 0
  | [b] => branchNumber b
  | _ => 15

/-- Whether a latched source is pending (R144). -/
def PendingSet.holds (p : PendingSet) : Source → Bool
  | .trip => p.trip
  | .lock => p.lock
  | .shedLoss => p.shedLoss
  | .stress => p.stress
  | .sign => p.sign

/-- Some source is both active and enabled (R148). -/
def State.enabledActive (s : State) : Bool :=
  let p := s.irq.pending
  let e := s.irq.enable
  (s.log.condition && e.log) || (p.trip && e.trip) || (p.lock && e.lock) || (p.shedLoss && e.shedLoss)
    || (p.stress && e.stress) || (p.sign && e.sign)

/-- What the part puts on D7-D0: the value of the last read while it drives them, else nothing (R157, R158). -/
def State.dataBus (s : State) : Option Byte := if s.window.driving then some s.window.dataOut else none

/-- INT# is asserted while an enabled source is active, and released while RESET# is asserted (R148, R149). -/
def State.intOut (s : State) : Bool := !s.pins.reset && s.enabledActive

/-! ### Numeric codes (R165, R166, and the table under R169) -/

def BranchState.code : BranchState → Nat
  | .off => 0
  | .queued => 1
  | .inrush => 2
  | .on => 3
  | .dead => 4
  | .lockout => 5
  | .shed => 6

def TripCause.code : TripCause → Nat
  | .sc => 1
  | .oc => 2
  | .norise => 3
  | .pgloss => 4

def LoadState.code : LoadState → Nat
  | .calm => 0
  | .shedding => 1
  | .hold => 2
  | .restoring => 3

def SignState.code : SignState → Nat
  | .idle => 0
  | .running => 1
  | .done => 2
  | .stale => 3
  | .aborted => 4

def RecordKind.code : RecordKind → Nat
  | .trip => 1
  | .lockout => 2
  | .shed => 3
  | .restore => 4
  | .drop => 5
  | .exhausted => 6
  | .allOff => 7
  | .restart => 8
  | .recall => 9

def RecordCause.code : RecordCause → Nat
  | .trip c => c.code
  | .pin => 5
  | .command => 6

def Phase.code : Phase → Nat
  | .inrush => 1
  | .on => 2

def ResultCode.code : ResultCode → Nat
  | .none => 0
  | .done => 1
  | .wrongState => 2
  | .badArg => 3
  | .busy => 4
  | .held => 5
  | .unknown => 6

def WriteStatus.code : WriteStatus → Nat
  | .ok => 0
  | .locked => 1
  | .range => 2
  | .active => 3
  | .readonly => 4

def ViewSel.code : ViewSel → Nat
  | .queue k => k.val
  | .stack k => 0x10 + k.val

/-- A branch as an item reports it: its number, or 0 for absent (R167). -/
def branchCode : Option Branch → Nat
  | none => 0
  | some b => branchNumber b

end Sys2Proof.Machine
end

