-- ==== Sys2Proof/Machine/Ops.lean ====
section
/-! DEFINITION. The operations that several commands share, each written once from the rule that owns it: branch
records, log offers, interrupt latches, the close queue, the taking of a trip, completion, and the load manager's
steps. -/

namespace Sys2Proof.Machine

/-! ### When an event is taken -/

/-- While RESET# is asserted the part takes no event (R121). -/
def State.whenRunning (s : State) (f : State → State) : State := if s.pins.reset then s else f s

/-- What follows from the tick or from a due grant is taken only while CLKIN runs (R1, R77). -/
def State.whenClocked (s : State) (f : State → State) : State := if s.pins.reset || !s.pins.clkin then s else f s

/-! ### Branch records -/

/-- The state with the record of one branch replaced. -/
def State.setBr (s : State) (b : Branch) (r : BranchRec) : State := { s with branches := s.branches.set b r }

/-- The state with the record of one branch changed. -/
def State.updBr (s : State) (b : Branch) (f : BranchRec → BranchRec) : State := s.setBr b (f (s.br b))

/-- The state with every branch record changed alike. -/
def State.mapBr (s : State) (f : BranchRec → BranchRec) : State :=
  { s with branches := Vector.ofFn fun b : Branch => f (s.br b) }

/-- A change of state cancels the timers of the state it leaves (R22). -/
def BranchRec.cancelTimers (r : BranchRec) : BranchRec :=
  match r.state with
  | .inrush => { r with blanking := none, rise := none }
  | .on => { r with ocQualify := none, pgLoss := none, settle := none }
  | .dead => { r with dead := none }
  | .off | .queued | .lockout | .shed => r

/-- A change of state (R22). -/
def BranchRec.moveTo (r : BranchRec) (st : BranchState) : BranchRec := { r.cancelTimers with state := st }

/-- An entry to OFF returns the attempt count to 0 and keeps the last trip cause (R22). -/
def BranchRec.toOff (r : BranchRec) : BranchRec := { r.moveTo .off with attempts := 0 }

/-! ### Interrupt latches and window outcomes -/

/-- A latched source joins the pending set (R144). -/
def PendingSet.add (p : PendingSet) : Source → PendingSet
  | .trip => { p with trip := true }
  | .lock => { p with lock := true }
  | .shedLoss => { p with shedLoss := true }
  | .stress => { p with stress := true }
  | .sign => { p with sign := true }

/-- The event of a cause latches its source (R144). -/
def State.latch (s : State) (src : Source) : State := { s with irq.pending := s.irq.pending.add src }

/-- RESULT takes the command's result code in the command's event (R164). -/
def State.withResult (s : State) (c : ResultCode) : State := { s with window.result := c }

/-- A write to any location but 00h sets WSTAT in its event (R166). -/
def State.withWstat (s : State) (c : WriteStatus) : State := { s with window.wstat := c }

/-! ### Event log -/

/-- The log takes an offer: it stores it behind the others, numbered and stamped, or discards and counts it
(R126, R129, R130). -/
def EventLog.take (l : EventLog) (o : Offer) (now : Half) : EventLog :=
  if l.records.length < Config.logCapacity then
    { l with
      records := l.records ++ [{ seq := l.seq, kind := o.kind, branch := o.branch, cause := o.cause, detail := o.detail,
                                 phase := o.phase, time := now, gap := if l.lost = 0 then none else some l.lost }]
      seq := l.seq + 1
      lost := 0
      idx := if l.records.isEmpty then 0 else l.idx }
  else { l with lost := if l.lost = 255 then 255 else l.lost + 1 }

/-- A block offers a record; the timestamp is the millisecond counter at the offer (R3, R130). -/
def State.offer (s : State) (o : Offer) : State := { s with log := s.log.take o s.time.ms }

/-! ### Close queue and inrush slots -/

/-- The new entry stands behind every entry of equal or smaller PRIORITY and ahead of every larger one (R71). -/
def insertByPriority (prio : Branch → Nat) (b : Branch) : List Branch → List Branch
  | [] => [b]
  | c :: cs => if prio c ≤ prio b then c :: insertByPriority prio b cs else b :: c :: cs

/-- A branch enters QUEUED and its number joins the close queue, in one event (R70, R71). -/
def State.joinQueue (s : State) (b : Branch) : State :=
  { s.updBr b (·.moveTo .queued) with arbiter.queue := insertByPriority s.priority b s.arbiter.queue }

/-- An entry leaves the close queue from wherever it stands (R73). -/
def State.leaveQueue (s : State) (b : Branch) : State :=
  { s with arbiter.queue := s.arbiter.queue.filter (· != b) }

/-- A departure from INRUSH lowers the inrush count by 1 (R75). -/
def State.releaseSlot (s : State) : State := { s with arbiter.inrushCount := s.arbiter.inrushCount - 1 }

/-! ### End of a flight -/

/-- The in-flight branch stops being in flight: the load manager starts its restore spacing, or enters CALM if the
stack is empty (R104). -/
def LoadManager.endFlight (l : LoadManager) : LoadManager :=
  if l.stack.isEmpty then { l with inFlight := none, mode := .calm }
  else { l with inFlight := none, spacingTimer := some (restoreSpacingTicks l) }

/-- A completion, trip or OPEN of branch b ends its flight if it is the branch in flight (R104). -/
def State.endFlightOf (s : State) (b : Branch) : State :=
  if s.load.inFlight = some b then { s with load := s.load.endFlight } else s

/-! ### Taking a trip -/

/-- The digest takes the notice of a trip (R140). -/
def Digest.notice (d : Digest) (b : Branch) : Digest :=
  { trips := d.trips.set b true, first := some (d.first.getD b) }

/-- A trip that finds the attempt count below BUDGET raises the count and enters DEAD with the dead timer started
(R56, R59); any other enters LOCKOUT with the count kept (R57, log 17). The cause is recorded either way (R55). -/
def BranchRec.tripped (r : BranchRec) (cause : TripCause) : BranchRec :=
  if r.attempts < r.profile.budget.toNat then
    { r.moveTo .dead with
      attempts := r.attempts + 1, lastCause := some cause, dead := some (deadTicks r.profile (r.attempts + 1)) }
  else { r.moveTo .lockout with lastCause := some cause }

/-- The record of a trip: TRIP with the raised count, or LOCKOUT with the count at the trip (R56, R57). -/
def tripOffer (r : BranchRec) (b : Branch) (cause : TripCause) (phase : Phase) : Offer :=
  if r.attempts < r.profile.budget.toNat then
    { kind := .trip, branch := some b, cause := some (.trip cause), detail := r.attempts + 1, phase := some phase }
  else
    { kind := .lockout, branch := some b, cause := some (.trip cause), detail := r.attempts, phase := some phase }

/-- The reclose sequencer takes a trip in the event of its decision (R55 to R57). -/
def State.takeTrip (s : State) (b : Branch) (cause : TripCause) (phase : Phase) : State :=
  let r := s.br b
  let s := s.setBr b (r.tripped cause)
  let s := if phase = .inrush then s.releaseSlot else s
  let s := { s with digest := s.digest.notice b }
  let s := (s.latch .trip).endFlightOf b
  let s := s.offer (tripOffer r b cause phase)
  if r.attempts < r.profile.budget.toNat then s else s.latch .lock

/-! ### Closing a branch -/

/-- The entry to INRUSH starts the blanking and rise timers, or with SCn# asserted trips at once (R36, R40). -/
def State.enterInrush (s : State) (b : Branch) : State :=
  let r := (s.br b).moveTo .inrush
  if r.scLevel then (s.setBr b r).takeTrip b .sc .inrush
  else s.setBr b { r with blanking := some (blankingTicks r.profile), rise := some (riseTicks r.profile) }

/-- An overcurrent that ON acts on starts the OC qualify timer, or with OCQUAL 0 trips at once (R47, R48). -/
def State.overcurrent (s : State) (b : Branch) : State :=
  if (s.br b).profile.ocqual = 0 then s.takeTrip b .oc .on
  else s.updBr b fun r => { r with ocQualify := some (ocQualifyTicks r.profile) }

/-- The entry to ON examines SCn# and then OCn# (R37, R47). -/
def State.examineAtOn (s : State) (b : Branch) : State :=
  if (s.br b).scLevel then s.takeTrip b .sc .on
  else if (s.br b).ocLevel then s.overcurrent b
  else s

/-- An entry to ON with the attempt count above 0 starts the settle timer (R63). -/
def BranchRec.startSettle (r : BranchRec) : BranchRec :=
  if 0 < r.attempts then { r with settle := some (settleTicks r.profile) } else r

/-- The completion: INRUSH to ON, the slot released, the flight ended, the settle timer started, the inputs examined
(R45). -/
def State.complete (s : State) (b : Branch) : State :=
  (((s.updBr b fun r => (r.moveTo .on).startSettle).releaseSlot).endFlightOf b).examineAtOn b

/-- The grant: the queue head enters INRUSH with a slot, and STAGGER above 0 starts the stagger timer (R78, R79). -/
def State.takeGrant (s : State) : State :=
  match s.arbiter.queue with
  | [] => s
  | b :: rest =>
    let s := { s with arbiter.queue := rest, arbiter.inrushCount := s.arbiter.inrushCount + 1 }
    let s := s.enterInrush b
    if s.arbiter.stagger = 0 then s else { s with arbiter.staggerTimer := some (staggerTicks s.arbiter) }

/-! ### Load manager -/

/-- The shed step's victim leaves ON for SHED and is pushed; a full stack drops its bottom entry to OFF
(R98, R99). -/
def State.shedVictim (s : State) (v : Branch) : State :=
  let stack := s.load.stack
  let full := decide (Config.stackCapacity ≤ stack.length)
  let pushed := v :: (if full then stack.dropLast else stack)
  let s := { s.updBr v (·.moveTo .shed) with load.stack := pushed }
  let s := s.offer { kind := .shed, branch := some v, cause := none, detail := pushed.length, phase := none }
  match full, stack.getLast? with
  | true, some d =>
    ((s.updBr d (·.toOff)).offer
      { kind := .drop, branch := some d, cause := none, detail := 0, phase := none }).latch .shedLoss
  | _, _ => s

/-- A shed step without a victim reports exhaustion once an episode (R100). -/
def State.exhaust (s : State) : State :=
  if s.load.exhausted then s
  else
    let s := s.offer { kind := .exhausted, branch := none, cause := none, detail := 0, phase := none }
    { s.latch .shedLoss with load.exhausted := true }

/-- The shed step (R97 to R100). -/
def State.shedStep (s : State) : State :=
  match s.victim with
  | some v => s.shedVictim v
  | none => s.exhaust

/-- The shed interval timer starts or restarts (R91, R92). -/
def State.startShedTimer (s : State) : State :=
  { s with load.shedTimer := some (shedIntervalTicks s.load) }

/-- SHEDDING is entered: the shed interval starts and a shed step is taken (R91). -/
def State.startShedding (s : State) : State := { s.startShedTimer with load.mode := .shedding }.shedStep

/-- The recall: the spacing is cancelled, a QUEUED in-flight branch goes back onto the stack, and no branch is in
flight any more (R105). -/
def State.recall (s : State) : State :=
  let flight := s.load.inFlight
  let s := { s with load.spacingTimer := none, load.inFlight := none }
  match flight with
  | none => s
  | some b =>
    if (s.br b).state = .queued then
      let stack := b :: s.load.stack
      let s := { (s.leaveQueue b).updBr b (·.moveTo .shed) with load.stack := stack }
      s.offer { kind := .recall, branch := some b, cause := none, detail := stack.length, phase := none }
    else s

/-- A rise of qualified stress (R89, R91, R105). It cannot be taken in SHEDDING (R91, log 17). -/
def State.qualifiedRise (s : State) : State :=
  let s := { s.latch .stress with load.qualified := true }
  match s.load.mode with
  | .calm => s.startShedding
  | .hold => { s with load.holdTimer := none }.startShedding
  | .restoring => s.recall.startShedding
  | .shedding => s

/-- A fall of qualified stress; in SHEDDING the load manager enters HOLD (R89, R92). -/
def State.qualifiedFall (s : State) : State :=
  let s := { s with load.qualified := false }
  match s.load.mode with
  | .shedding =>
    { s with
      load.mode := .hold, load.shedTimer := none, load.exhausted := false, load.holdTimer := some (holdTicks s.load) }
  | .calm | .hold | .restoring => s

/-- The restore step: the top of the stack joins the close queue as the in-flight branch (R102). -/
def State.restoreStep (s : State) : State :=
  match s.load.stack with
  | [] => s
  | b :: rest =>
    let s := { s with load.stack := rest, load.inFlight := some b }.joinQueue b
    s.offer { kind := .restore, branch := some b, cause := none, detail := rest.length, phase := none }

/-- The restore goes on: a restore step in RESTORING if the stack holds an entry, else CALM (R93, R104). -/
def State.restoreOrCalm (s : State) : State :=
  if s.load.stack.isEmpty then { s with load.mode := .calm } else { s with load.mode := .restoring }.restoreStep

/-- All-off and engine restart: CALM, the stack empty, no flight, the exhausted flag clear, the three timers
cancelled; the qualifier is not touched (R110). -/
def LoadManager.calmed (l : LoadManager) : LoadManager :=
  { l with mode := .calm, stack := [], inFlight := none, exhausted := false, shedTimer := none, holdTimer := none,
           spacingTimer := none }

/-- All-off and engine restart: the queue empty, the count 0, the stagger timer cancelled (R86). -/
def Arbiter.emptied (a : Arbiter) : Arbiter := { a with queue := [], inrushCount := 0, staggerTimer := none }

/-! ### All-off -/

/-- An all-off: every active branch to OFF, queue and stack empty, one ALLOFF record (R112, R113). -/
def State.takeAllOff (s : State) (cause : RecordCause) : State :=
  let n := s.activeCount
  let s := s.mapBr fun r => if r.state.active then r.toOff else r
  let s := { s with arbiter := s.arbiter.emptied, load := s.load.calmed }
  s.offer { kind := .allOff, branch := none, cause := some cause, detail := n, phase := none }

/-! ### Signature engine -/

/-- An operation ends: the record timer is off, the progress branch reads 0, the register stays, SIGN is latched
(R152 to R154). -/
def State.endSignature (s : State) (st : SignState) : State :=
  { s with sig := { s.sig with state := st, progress := none, timer := none } }.latch .sign

/-- The notice of a taken profile write ends a RUNNING operation whose range holds the branch (R153). -/
def State.profileNotice (s : State) (b : Branch) : State :=
  if s.sig.state = .running ∧ s.sig.first ≤ b ∧ b ≤ s.sig.last then s.endSignature .stale else s

end Sys2Proof.Machine
end

