-- ==== Sys2Proof/Machine/Detector.lean ====
section
/-! DEFINITION. Trip Detection (chapter 3): the events of SCn#, OCn# and PGn and the expiries of the four detector
timers. A change of a pin is an event only where it changes the level (00_scope.md 6.3, log 7), and while RESET# is
asserted only the pin itself changes (R54, R121). An expiry command is the expiry itself: it is taken whenever its timer
runs (log 5), and has no effect when it does not (R8, log 6). -/

namespace Sys2Proof.Machine

/-- An assertion of SCn#: the level record, and in INRUSH or ON a trip at once (R32, R35). -/
def State.takeScAssertion (s : State) (n : Branch) : State :=
  let s := s.updBr n fun r => { r with scLevel := true }
  match (s.br n).state with
  | .inrush => s.takeTrip n .sc .inrush
  | .on => s.takeTrip n .sc .on
  | .off | .queued | .dead | .lockout | .shed => s

/-- An assertion of OCn#: the level record, and in ON the overcurrent (R48). -/
def State.takeOcAssertion (s : State) (n : Branch) : State :=
  let s := s.updBr n fun r => { r with ocLevel := true }
  if (s.br n).state = .on then s.overcurrent n else s

/-- A release of OCn#: the level record, and a running OC qualify timer is cancelled (R49). -/
def State.takeOcRelease (s : State) (n : Branch) : State :=
  s.updBr n fun r => { r with ocLevel := false, ocQualify := none }

/-- An assertion of PGn: in INRUSH with blanking done the completion, in ON the end of a PG loss (R42, R50). -/
def State.takePgAssertion (s : State) (n : Branch) : State :=
  let s := s.updBr n fun r => { r with pgLevel := true }
  if (s.br n).blankingDone then s.complete n
  else if (s.br n).state = .on then s.updBr n fun r => { r with pgLoss := none }
  else s

/-- A release of PGn: in ON the PG-loss timer starts (R43, R50). -/
def State.takePgRelease (s : State) (n : Branch) : State :=
  let s := s.updBr n fun r => { r with pgLevel := false }
  if (s.br n).state = .on then s.updBr n fun r => { r with pgLoss := some (pgLossTicks s.pgqual) } else s

/-- The expiry of the OC qualify timer of a branch in ON: a trip with cause OC (R49). -/
def State.expireOcQualify (s : State) (n : Branch) : State :=
  if (s.br n).ocQualify.isNone then s
  else
    let s := s.updBr n fun r => { r with ocQualify := none }
    if (s.br n).state = .on then s.takeTrip n .oc .on else s

/-- The expiry of the PG-loss timer of a branch in ON: a trip with cause PGLOSS (R51). -/
def State.expirePgLoss (s : State) (n : Branch) : State :=
  if (s.br n).pgLoss.isNone then s
  else
    let s := s.updBr n fun r => { r with pgLoss := none }
    if (s.br n).state = .on then s.takeTrip n .pgloss .on else s

/-- The expiry of the blanking timer: blanking is done, and with PGn asserted the close completes (R41). -/
def State.expireBlanking (s : State) (n : Branch) : State :=
  if (s.br n).blanking.isNone then s
  else
    let s := s.updBr n fun r => { r with blanking := none }
    if (s.br n).state = .inrush ∧ (s.br n).pgLevel then s.complete n else s

/-- The expiry of the rise timer: a NORISE trip if PGn is released (R44). -/
def State.expireRise (s : State) (n : Branch) : State :=
  if (s.br n).rise.isNone then s
  else
    let s := s.updBr n fun r => { r with rise := none }
    if (s.br n).state = .inrush ∧ ¬(s.br n).pgLevel then s.takeTrip n .norise .inrush else s

/-- SC_ASSERTION (R35). -/
def execScAssertion (n : Branch) (s : State) : Host.Outcome State Fault Refusal :=
  .next (if s.pins.sc[n] then s
    else { s with pins.sc := s.pins.sc.set n true }.whenRunning fun s => s.takeScAssertion n)

/-- SC_RELEASE (R38). -/
def execScRelease (n : Branch) (s : State) : Host.Outcome State Fault Refusal :=
  .next (if !s.pins.sc[n] then s
    else { s with pins.sc := s.pins.sc.set n false }.whenRunning fun s =>
      s.updBr n fun r => { r with scLevel := false })

/-- OC_ASSERTION (R48). -/
def execOcAssertion (n : Branch) (s : State) : Host.Outcome State Fault Refusal :=
  .next (if s.pins.oc[n] then s
    else { s with pins.oc := s.pins.oc.set n true }.whenRunning fun s => s.takeOcAssertion n)

/-- OC_RELEASE (R49). -/
def execOcRelease (n : Branch) (s : State) : Host.Outcome State Fault Refusal :=
  .next (if !s.pins.oc[n] then s
    else { s with pins.oc := s.pins.oc.set n false }.whenRunning fun s => s.takeOcRelease n)

/-- PG_ASSERTION (R42). -/
def execPgAssertion (n : Branch) (s : State) : Host.Outcome State Fault Refusal :=
  .next (if s.pins.pg[n] then s
    else { s with pins.pg := s.pins.pg.set n true }.whenRunning fun s => s.takePgAssertion n)

/-- PG_RELEASE (R50). -/
def execPgRelease (n : Branch) (s : State) : Host.Outcome State Fault Refusal :=
  .next (if !s.pins.pg[n] then s
    else { s with pins.pg := s.pins.pg.set n false }.whenRunning fun s => s.takePgRelease n)

/-- OC_QUALIFY_EXPIRY (R49). -/
def execOcQualifyExpiry (n : Branch) (s : State) : Host.Outcome State Fault Refusal :=
  .next (s.whenClocked fun s => s.expireOcQualify n)

/-- PG_LOSS_EXPIRY (R51). -/
def execPgLossExpiry (n : Branch) (s : State) : Host.Outcome State Fault Refusal :=
  .next (s.whenClocked fun s => s.expirePgLoss n)

/-- BLANKING_EXPIRY (R41). -/
def execBlankingExpiry (n : Branch) (s : State) : Host.Outcome State Fault Refusal :=
  .next (s.whenClocked fun s => s.expireBlanking n)

/-- RISE_EXPIRY (R44). -/
def execRiseExpiry (n : Branch) (s : State) : Host.Outcome State Fault Refusal :=
  .next (s.whenClocked fun s => s.expireRise n)

end Sys2Proof.Machine
end

