-- ==== Sys2Proof/Machine/Load.lean ====
section
/-! DEFINITION. Load Shedding and Restore (chapter 6): the events of SUPOVL# and BUSLO# and the expiries of the stress
qualify, shed interval, hold and restore spacing timers. -/

namespace Sys2Proof.Machine

/-- The level record of one stress input set (R87). -/
def LoadManager.setLevel (l : LoadManager) (i : StressInput) (level : Bool) : LoadManager :=
  match i with
  | .supovl => { l with supovl := level }
  | .buslo => { l with buslo := level }

/-- The pin of one stress input. -/
def Pins.stressPin (p : Pins) : StressInput → Bool
  | .supovl => p.supovl
  | .buslo => p.buslo

/-- The pin of one stress input set. -/
def Pins.setStressPin (p : Pins) (i : StressInput) (level : Bool) : Pins :=
  match i with
  | .supovl => { p with supovl := level }
  | .buslo => { p with buslo := level }

/-- A rise of raw stress starts the qualify timer, or with STRESSQUAL 0 raises qualified stress (R88). -/
def State.rawRise (s : State) : State :=
  if s.load.stressqual = 0 then s.qualifiedRise
  else { s with load.qualifyTimer := some (stressQualifyTicks s.load) }

/-- A fall of raw stress cancels the qualify timer, and lowers qualified stress if present (R88). -/
def State.rawFall (s : State) : State :=
  let s := { s with load.qualifyTimer := none }
  if s.load.qualified then s.qualifiedFall else s

/-- An assertion of a stress input; it is a rise of raw stress if the other input is released (R87). -/
def State.takeStressAssertion (s : State) (i : StressInput) : State :=
  let s := { s with load := s.load.setLevel i true }
  if s.load.otherLevel i then s else s.rawRise

/-- A release of a stress input; it is a fall of raw stress if the other input is released (R87). -/
def State.takeStressRelease (s : State) (i : StressInput) : State :=
  let s := { s with load := s.load.setLevel i false }
  if s.load.otherLevel i then s else s.rawFall

/-- The expiry of the stress qualify timer raises qualified stress (R88). -/
def State.expireStressQualify (s : State) : State :=
  if s.load.qualifyTimer.isNone then s else { s with load.qualifyTimer := none }.qualifiedRise

/-- The expiry of the shed interval timer in SHEDDING: one shed step and a new interval (R92). -/
def State.expireShedInterval (s : State) : State :=
  if s.load.shedTimer.isNone then s
  else
    let s := { s with load.shedTimer := none }
    if s.load.mode = .shedding then s.shedStep.startShedTimer else s

/-- The expiry of the hold timer in HOLD: RESTORING with a restore step, or CALM (R93). -/
def State.expireHold (s : State) : State :=
  if s.load.holdTimer.isNone then s
  else
    let s := { s with load.holdTimer := none }
    if s.load.mode = .hold then s.restoreOrCalm else s

/-- The expiry of the restore spacing timer in RESTORING: a restore step, or CALM (R104). -/
def State.expireSpacing (s : State) : State :=
  if s.load.spacingTimer.isNone then s
  else
    let s := { s with load.spacingTimer := none }
    if s.load.mode = .restoring then s.restoreOrCalm else s

/-- STRESS_INPUT_ASSERTION (R87). -/
def execStressInputAssertion (i : StressInput) (s : State) : Host.Outcome State Fault Refusal :=
  .next (if s.pins.stressPin i then s
    else { s with pins := s.pins.setStressPin i true }.whenRunning fun s => s.takeStressAssertion i)

/-- STRESS_INPUT_RELEASE (R88). -/
def execStressInputRelease (i : StressInput) (s : State) : Host.Outcome State Fault Refusal :=
  .next (if !s.pins.stressPin i then s
    else { s with pins := s.pins.setStressPin i false }.whenRunning fun s => s.takeStressRelease i)

/-- STRESS_QUALIFY_EXPIRY (R88). -/
def execStressQualifyExpiry (s : State) : Host.Outcome State Fault Refusal :=
  .next (s.whenClocked State.expireStressQualify)

/-- SHED_INTERVAL_EXPIRY (R92). -/
def execShedIntervalExpiry (s : State) : Host.Outcome State Fault Refusal :=
  .next (s.whenClocked State.expireShedInterval)

/-- HOLD_EXPIRY (R93). -/
def execHoldExpiry (s : State) : Host.Outcome State Fault Refusal := .next (s.whenClocked State.expireHold)

/-- RESTORE_SPACING_EXPIRY (R104). -/
def execRestoreSpacingExpiry (s : State) : Host.Outcome State Fault Refusal :=
  .next (s.whenClocked State.expireSpacing)

end Sys2Proof.Machine
end

