-- ==== Sys2Proof/Machine/Reclose.lean ====
section
/-! DEFINITION. Reclose Sequencing (chapter 4): the expiries of the dead and settle timers. The taking of a trip is
`State.takeTrip` in Machine/Ops.lean, and REARM is in Machine/Branch.lean. -/

namespace Sys2Proof.Machine

/-- The expiry of the dead timer of a branch in DEAD is its reclose request (R61). -/
def State.expireDead (s : State) (n : Branch) : State :=
  if (s.br n).dead.isNone then s
  else
    let s := s.updBr n fun r => { r with dead := none }
    if (s.br n).state = .dead then s.joinQueue n else s

/-- The expiry of the settle timer of a branch in ON returns the attempt count to 0 (R64). -/
def State.expireSettle (s : State) (n : Branch) : State :=
  if (s.br n).settle.isNone then s
  else
    let s := s.updBr n fun r => { r with settle := none }
    if (s.br n).state = .on then s.updBr n fun r => { r with attempts := 0 } else s

/-- DEAD_EXPIRY (R61). -/
def execDeadExpiry (n : Branch) (s : State) : Host.Outcome State Fault Refusal :=
  .next (s.whenClocked fun s => s.expireDead n)

/-- SETTLE_EXPIRY (R64). -/
def execSettleExpiry (n : Branch) (s : State) : Host.Outcome State Fault Refusal :=
  .next (s.whenClocked fun s => s.expireSettle n)

end Sys2Proof.Machine
end

