-- ==== Sys2Proof/WellFormed.lean ====
section
/-! DEFINITION. Which commands are written in the row of spec/opcode_table.json that owns them: a write of a command
code is that command's row, and a write to a location that has a row of its own is that row. -/

namespace Sys2Proof

/-- The nine command codes of R164. -/
def isCommandCode (code : Byte) : Bool :=
  [0x01, 0x02, 0x03, 0x10, 0x11, 0x20, 0x30, 0x31, 0x32].contains code.toNat

/-- The locations whose writes have a row other than REGISTER_WRITE: CMD (R164), the profile (R12), PRESCALE (R4),
SLOTS (R76), LOGTHR (R137), IRQPEND (R146) and IRQEN (R147). -/
def hasOwnWriteRow (loc : Loc) : Bool :=
  [0x00, 0x04, 0x05, 0x06, 0x07, 0x08, 0x09, 0x0A, 0x0B, 0x10, 0x11, 0x18, 0x27, 0x28].contains loc.toNat

/-- A command stands in its own row. Every other operand is in range by its type. -/
def Instr.wellFormed : Instr → Bool
  | .unknownCommand code => !isCommandCode code
  | .registerWrite loc _ => !hasOwnWriteRow loc
  | .close | .openBranch | .rearm | .allOff | .restart | .sign | .digestClr | .logAdv | .logClr => true
  | .msloRead | .logdataRead => true
  | .profileWrite _ _ | .prescaleWrite _ | .slotsWrite _ | .irqpendAcknowledge _ | .irqenWrite _ => true
  | .logthrWrite _ => true
  | .scAssertion _ | .scRelease _ | .ocAssertion _ | .ocRelease _ | .pgAssertion _ | .pgRelease _ => true
  | .stressInputAssertion _ | .stressInputRelease _ | .estopAssertion | .estopRelease => true
  | .resetAssertion | .hardwareReset | .millisecondBoundary => true
  | .ocQualifyExpiry _ | .pgLossExpiry _ | .blankingExpiry _ | .riseExpiry _ | .deadExpiry _ => true
  | .settleExpiry _ | .staggerExpiry | .stressQualifyExpiry | .shedIntervalExpiry | .holdExpiry => true
  | .restoreSpacingExpiry | .signatureRecordExpiry | .grant => true

end Sys2Proof
end

