-- ==== Sys2Proof/Decode.lean ====
section
/-! DEFINITION. Which command a bus access is, and which access a change of the strobes is. The rows of
spec/opcode_table.json give no bits, so no word spells a command by the table's bits. -/

namespace Sys2Proof

/-- The command that a word spells by the table's bits. No row of the table gives bits (log 1). -/
def decodeTableWord (_nbits _w : Nat) : Option Instr := none

/-- The profile location's field (section 11.2). -/
def profileFieldAt (loc : Loc) : Option ProfileField :=
  match loc.toNat with
  | 0x04 => some .priority
  | 0x05 => some .budget
  | 0x06 => some .deadbase
  | 0x07 => some .options
  | 0x08 => some .ocqual
  | 0x09 => some .blank
  | 0x0A => some .rise
  | 0x0B => some .settle
  | _ => none

/-- The location of a profile field (section 2.1.1). -/
def profileLocation : ProfileField → Loc
  | .priority => 0x04
  | .budget => 0x05
  | .deadbase => 0x06
  | .options => 0x07
  | .ocqual => 0x08
  | .blank => 0x09
  | .rise => 0x0A
  | .settle => 0x0B

/-- The command that a write of a code to CMD is (R164). -/
def codeCommand (code : Byte) : Instr :=
  match code.toNat with
  | 0x01 => .close
  | 0x02 => .openBranch
  | 0x03 => .rearm
  | 0x10 => .allOff
  | 0x11 => .restart
  | 0x20 => .sign
  | 0x30 => .digestClr
  | 0x31 => .logAdv
  | 0x32 => .logClr
  | _ => .unknownCommand code

/-- The command that a write of a value to a location is (section 11.2). -/
def writeCommand (loc : Loc) (v : Byte) : Instr :=
  match profileFieldAt loc with
  | some f => .profileWrite f v
  | none =>
    match loc.toNat with
    | 0x00 => codeCommand v
    | 0x10 => .prescaleWrite v
    | 0x11 => .slotsWrite v
    | 0x18 => .logthrWrite v
    | 0x27 => .irqpendAcknowledge v
    | 0x28 => .irqenWrite v
    | _ => .registerWrite loc v

/-- The command that a bus access is; reads without a side effect have no row (R157, log 14). -/
def accessCommand : BusAccess → Option Instr
  | .write loc v => some (writeCommand loc v)
  | .read loc =>
    match loc.toNat with
    | 0x20 => some .logdataRead
    | 0x29 => some .msloRead
    | _ => none

/-- The bus access that spells a command; events that are no bus access have none. -/
def busSpelling : Instr → Option BusAccess
  | .close => some (.write 0x00 0x01)
  | .openBranch => some (.write 0x00 0x02)
  | .rearm => some (.write 0x00 0x03)
  | .allOff => some (.write 0x00 0x10)
  | .restart => some (.write 0x00 0x11)
  | .sign => some (.write 0x00 0x20)
  | .digestClr => some (.write 0x00 0x30)
  | .logAdv => some (.write 0x00 0x31)
  | .logClr => some (.write 0x00 0x32)
  | .unknownCommand code => some (.write 0x00 code)
  | .msloRead => some (.read 0x29)
  | .logdataRead => some (.read 0x20)
  | .profileWrite f v => some (.write (profileLocation f) v)
  | .prescaleWrite v => some (.write 0x10 v)
  | .slotsWrite v => some (.write 0x11 v)
  | .irqpendAcknowledge v => some (.write 0x27 v)
  | .irqenWrite v => some (.write 0x28 v)
  | .logthrWrite v => some (.write 0x18 v)
  | .registerWrite loc v => some (.write loc v)
  | .scAssertion _ | .scRelease _ | .ocAssertion _ | .ocRelease _ | .pgAssertion _ | .pgRelease _ => none
  | .stressInputAssertion _ | .stressInputRelease _ | .estopAssertion | .estopRelease => none
  | .resetAssertion | .hardwareReset | .millisecondBoundary => none
  | .ocQualifyExpiry _ | .pgLossExpiry _ | .blankingExpiry _ | .riseExpiry _ | .deadExpiry _ => none
  | .settleExpiry _ | .staggerExpiry | .stressQualifyExpiry | .shedIntervalExpiry | .holdExpiry => none
  | .restoreSpacingExpiry | .signatureRecordExpiry | .grant => none

/-- The access that a change of the bus pins is: a write at the rising edge of WR# (its release) while CS# is
asserted, a read at the assertion of RD# while CS# is asserted and WR# released (R157, R158). -/
def BusPins.accessTaken (before after : BusPins) : Option BusAccess :=
  if before.wr && !after.wr && after.cs then some (.write after.addr after.data)
  else if !before.rd && after.rd && after.cs && !after.wr && !before.wr then some (.read after.addr)
  else none

/-- Whether the part drives D7-D0 after a change of the bus pins: from a read taken until RD# is released or WR# is
asserted (R157, R158, log 18). -/
def BusPins.drives (driving : Bool) (before after : BusPins) : Bool :=
  match before.accessTaken after with
  | some (.read _) => true
  | _ => driving && after.rd && !after.wr

end Sys2Proof
end

