-- ==== Sys2Proof/Machine/Admission.lean ====
section
/-! DEFINITION. Close Queue and Inrush Slots (chapter 5): the SLOTS write, the stagger expiry and the grant. -/

namespace Sys2Proof.Machine

/-- A write to SLOTS: RANGE, then ACTIVE, then OK (R76). -/
def State.writeSlots (s : State) (v : Byte) : State :=
  if !slotsInRange v then s.withWstat .range
  else if s.someActive then s.withWstat .active
  else { s with arbiter.slots := v }.withWstat .ok

/-- The expiry of the stagger timer re-opens the grant condition (R80). -/
def State.expireStagger (s : State) : State := { s with arbiter.staggerTimer := none }

/-- SLOTS_WRITE (R76). -/
def execSlotsWrite (v : Byte) (s : State) : Host.Outcome State Fault Refusal :=
  .next (s.whenRunning fun s => s.writeSlots v)

/-- STAGGER_EXPIRY (R80). -/
def execStaggerExpiry (s : State) : Host.Outcome State Fault Refusal := .next (s.whenClocked State.expireStagger)

/-- GRANT: taken only if the grant condition holds then, and only while CLKIN runs (R77, R78). -/
def execGrant (s : State) : Host.Outcome State Fault Refusal :=
  .next (s.whenClocked fun s => if s.grantCondition then s.takeGrant else s)

end Sys2Proof.Machine
end

