-- ==== Sys2Proof/Machine/Branch.lean ====
section
/-! DEFINITION. Branch Channels (chapter 2) and REARM (R67): the branch commands and the profile writes. -/

namespace Sys2Proof.Machine

/-- CLOSE: the argument, then ESTOP#, then the branch state (R24, R25). -/
def State.closeCommand (s : State) : State :=
  match branchArgument s.window.arg0 with
  | none => s.withResult .badArg
  | some b =>
    if s.estop then s.withResult .held
    else if (s.br b).state = .off then (s.joinQueue b).withResult .done
    else s.withResult .wrongState

/-- OPEN of branch b takes it to OFF from wherever it stands (R27 to R29). -/
def State.openBranch (s : State) (b : Branch) : State :=
  match (s.br b).state with
  | .off => s.withResult .done
  | .lockout => s.withResult .wrongState
  | .queued => (((s.leaveQueue b).updBr b (·.toOff)).endFlightOf b).withResult .done
  | .inrush => (((s.updBr b (·.toOff)).releaseSlot).endFlightOf b).withResult .done
  | .on | .dead => (s.updBr b (·.toOff)).withResult .done
  | .shed => { s.updBr b (·.toOff) with load.stack := s.load.stack.filter (· != b) }.withResult .done

/-- OPEN (R27). -/
def State.openCommand (s : State) : State :=
  match branchArgument s.window.arg0 with
  | none => s.withResult .badArg
  | some b => s.openBranch b

/-- REARM lifts a lockout (R67). -/
def State.rearmCommand (s : State) : State :=
  match branchArgument s.window.arg0 with
  | none => s.withResult .badArg
  | some b =>
    if (s.br b).state = .lockout then (s.updBr b (·.toOff)).withResult .done else s.withResult .wrongState

/-- A profile write: LOCKED outside OFF, then RANGE, then OK with the notice to the signature engine (R12, R13). -/
def State.writeProfile (s : State) (f : ProfileField) (v : Byte) : State :=
  let b := s.window.bptr
  if (s.br b).state ≠ .off then s.withWstat .locked
  else if fieldInRange f v then
    ((s.updBr b fun r => { r with profile := r.profile.store f v }).profileNotice b).withWstat .ok
  else s.withWstat .range

/-- CLOSE (R24). -/
def execClose (s : State) : Host.Outcome State Fault Refusal := .next (s.whenRunning State.closeCommand)

/-- OPEN (R27). -/
def execOpenBranch (s : State) : Host.Outcome State Fault Refusal := .next (s.whenRunning State.openCommand)

/-- REARM (R67). -/
def execRearm (s : State) : Host.Outcome State Fault Refusal := .next (s.whenRunning State.rearmCommand)

/-- PROFILE_WRITE (R12). -/
def execProfileWrite (f : ProfileField) (v : Byte) (s : State) : Host.Outcome State Fault Refusal :=
  .next (s.whenRunning fun s => s.writeProfile f v)

end Sys2Proof.Machine
end

