-- ==== Sys2Proof/Machine/Clock.lean ====
section
/-! DEFINITION. Timebase and Timers (chapter 1): the PRESCALE write, the read of MSLO, the millisecond boundary, and
what a CLKIN period does. The table has no row for the tick, so a CLKIN period is what `step` does on an empty queue
(log 2). -/

namespace Sys2Proof.Machine

/-- A write to PRESCALE: RANGE, then ACTIVE, then OK; the tick in progress keeps its length (R4, R5). -/
def State.writePrescale (s : State) (v : Byte) : State :=
  if !prescaleInRange v then s.withWstat .range
  else if s.someActive then s.withWstat .active
  else { s with time.prescale := v }.withWstat .ok

/-- A read of MSLO returns the low byte of the counter and copies the high byte into the MSHI hold (R6). -/
def State.readMslo (s : State) : State :=
  { s with window.dataOut := s.time.ms.setWidth 8, time.mshi := (s.time.ms >>> 8).setWidth 8 }

/-- The millisecond boundary: the sub-millisecond count returns to 0 and the counter rises, from 65535 to 0 (R2). The
command is the boundary itself, whatever the count (log 5). -/
def State.takeMsBoundary (s : State) : State := { s with time.subMs := 0, time.ms := s.time.ms + 1 }

/-- A running timer counts down by one at the end of a tick (R7). -/
def Timer.countDown : Timer → Timer
  | some (n + 1) => some n
  | t => t

/-- The six timers of a branch at the end of a tick (R7). -/
def BranchRec.countDown (r : BranchRec) : BranchRec :=
  { r with
    blanking := Timer.countDown r.blanking, rise := Timer.countDown r.rise, ocQualify := Timer.countDown r.ocQualify,
    pgLoss := Timer.countDown r.pgLoss, dead := Timer.countDown r.dead, settle := Timer.countDown r.settle }

/-- The expiries of a branch's timers whose count has reached zero (R7). -/
def BranchRec.dueExpiries (r : BranchRec) (n : Branch) : List Instr :=
  ([(r.blanking, .blankingExpiry n), (r.rise, .riseExpiry n), (r.ocQualify, .ocQualifyExpiry n),
    (r.pgLoss, .pgLossExpiry n), (r.dead, .deadExpiry n), (r.settle, .settleExpiry n)] : List (Timer × Instr)).filterMap
      fun p => if p.1 = some 0 then some p.2 else none

/-- The expiries of all timers whose count has reached zero (R7). -/
def State.dueExpiries (s : State) : List Instr :=
  (allBranches.flatMap fun n => (s.br n).dueExpiries n) ++
    ([(s.arbiter.staggerTimer, .staggerExpiry), (s.load.qualifyTimer, .stressQualifyExpiry),
      (s.load.shedTimer, .shedIntervalExpiry), (s.load.holdTimer, .holdExpiry),
      (s.load.spacingTimer, .restoreSpacingExpiry), (s.sig.timer, .signatureRecordExpiry)]
        : List (Timer × Instr)).filterMap fun p => if p.1 = some 0 then some p.2 else none

/-- Every running timer of the part counts down (R1). -/
def State.countDown (s : State) : State :=
  { s.mapBr BranchRec.countDown with
    arbiter.staggerTimer := Timer.countDown s.arbiter.staggerTimer
    load.qualifyTimer := Timer.countDown s.load.qualifyTimer
    load.shedTimer := Timer.countDown s.load.shedTimer
    load.holdTimer := Timer.countDown s.load.holdTimer
    load.spacingTimer := Timer.countDown s.load.spacingTimer
    sig.timer := Timer.countDown s.sig.timer }

/-- An element put in at a position; a position past the end is the end. -/
def insertAt (i : Instr) : Nat → List Instr → List Instr
  | _, [] => [i]
  | 0, l => i :: l
  | n + 1, j :: l => j :: insertAt i n l

/-- The events of one tick end in an order that the spec leaves open (log 3). -/
def interleave (free : Nat) : List Instr → List Instr
  | [] => []
  | i :: l =>
    let rest := interleave (free + 1) l
    match rest with
    | [] => [i]
    | _ :: _ => insertAt i (Config.eventOrder free % (rest.length + 1)) rest

/-- The end of a tick: the timers count down, the sub-millisecond count rises or a millisecond boundary comes, the
next tick begins with the length that PRESCALE gives, and the events due are put into the queue (R1, R2, R5, R7). The
order of these events is a free value (log 3). DESIGN CHOICE (log 21): all of them come before the part's own grant that
one of them makes due, where R83 lets the grant and another event come in either order. -/
def State.endTick (s : State) : State :=
  let s := s.countDown
  let boundary := decide (Config.ticksPerMs ≤ s.time.subMs + 1)
  let due := s.dueExpiries ++ (if boundary then [.millisecondBoundary] else [])
  { s with
    time.divider := 0
    time.tickLength := s.time.prescale.toNat
    time.subMs := if boundary then s.time.subMs else s.time.subMs + 1
    pending := s.pending ++ interleave s.free due
    free := s.free + due.length }

/-- The period of CLKIN that ends the tick in progress (R1). -/
def Timebase.lastPeriod (t : Timebase) : Bool := decide (t.tickLength ≤ t.divider + 1)

/-- One period of CLKIN (R1). -/
def State.clockPeriod (s : State) : State :=
  if s.time.lastPeriod then s.endTick else { s with time.divider := s.time.divider + 1 }

/-- The part's own grant is put into the queue. -/
def State.queueGrant (s : State) : State :=
  { s with pending := s.pending ++ [.grant], free := s.free + 1, grantWait := 0 }

/-- A period of CLKIN passes while a grant is due; at the end of the tick the grant has waited one tick end more. -/
def State.deferGrant (s : State) : State :=
  { s with
    free := s.free + 1
    grantWait := if s.time.lastPeriod then s.grantWait + 1 else s.grantWait }.clockPeriod

/-- What the part does with no command waiting: nothing while RESET# is asserted or CLKIN stopped; else a due grant is
taken or a period of CLKIN passes, and the spec leaves open which (R1, R77, R121; log 2, log 4), but a due grant sees at
most `Config.grantTicks` tick ends (R79, log 4). DESIGN CHOICE (log 21): the part's own grant is queued only with no
command waiting, so it never comes between two events of one tick end, where R83 leaves the order open. -/
def State.idle (s : State) : State :=
  s.whenClocked fun s =>
    if s.grantCondition then
      if decide (Config.grantTicks ≤ s.grantWait) || Config.grantTaken s.free then s.queueGrant else s.deferGrant
    else { s with grantWait := 0 }.clockPeriod

/-- PRESCALE_WRITE (R4). -/
def execPrescaleWrite (v : Byte) (s : State) : Host.Outcome State Fault Refusal :=
  .next (s.whenRunning fun s => s.writePrescale v)

/-- MSLO_READ (R6); while RESET# is asserted a read returns 00h without a side effect (R121). -/
def execMsloRead (s : State) : Host.Outcome State Fault Refusal :=
  .next (if s.pins.reset then { s with window.dataOut := 0 } else s.readMslo)

/-- MILLISECOND_BOUNDARY (R2). -/
def execMillisecondBoundary (s : State) : Host.Outcome State Fault Refusal :=
  .next (s.whenClocked State.takeMsBoundary)

end Sys2Proof.Machine
end

