-- ==== Sys2Proof/Machine/Emergency.lean ====
section
/-! DEFINITION. Emergency Off and Engine Restart (chapter 7): ESTOP#, ALLOFF, RESTART and the RESET# pin. -/

namespace Sys2Proof.Machine

/-- An assertion of ESTOP# is an all-off with cause PIN (R111). -/
def State.takeEstopAssertion (s : State) : State := { s with estop := true }.takeAllOff .pin

/-- ALLOFF is an all-off with cause COMMAND, whatever the ESTOP# level (R114). -/
def State.allOffCommand (s : State) : State := (s.takeAllOff .command).withResult .done

/-- The engine restart in the order of R118. -/
def State.takeRestart (s : State) : State :=
  let s := s.mapBr fun r => { r.toOff with lastCause := none }
  let s := { s with arbiter := s.arbiter.emptied, load := s.load.calmed, digest := Digest.default }
  let s := if s.sig.state = .running then s.endSignature .aborted else s
  let s := s.offer { kind := .restart, branch := none, cause := none, detail := s.autoStartCount, phase := none }
  (allBranches.filter fun b => (s.br b).profile.autoStart).foldl State.joinQueue s

/-- RESTART: HELD while ESTOP# is asserted (R118). -/
def State.restartCommand (s : State) : State :=
  if s.estop then s.withResult .held else s.takeRestart.withResult .done

/-- The timebase, branches, arbiter, load manager and signature timer while RESET# is held, by the first columns of
the tables of R9, R31, R54, R86, R110 and R156; what those columns do not change is kept until the release
(log 10). -/
def State.holdReset (s : State) : State :=
  { s with
    time := Timebase.default
    branches := Vector.ofFn fun b : Branch =>
      { BranchRec.default with
        scLevel := (s.br b).scLevel, ocLevel := (s.br b).ocLevel, pgLevel := (s.br b).pgLevel }
    pgqual := State.reset.pgqual
    arbiter := Arbiter.default
    load := { LoadManager.default with supovl := s.load.supovl, buslo := s.load.buslo }
    sig := { s.sig with timer := none } }

/-- The load manager at the release of RESET#: the level records take the pins, and a raw stress found present is a
rise with the default STRESSQUAL (R110). -/
def LoadManager.released (p : Pins) : LoadManager :=
  let l := { LoadManager.default with supovl := p.supovl, buslo := p.buslo }
  if l.rawStress then { l with qualifyTimer := some (stressQualifyTicks l) } else l

/-- A branch at the release of RESET#: the defaults, with the level records at the pins (R31, R54). -/
def BranchRec.released (p : Pins) (b : Branch) : BranchRec :=
  { BranchRec.default with scLevel := p.sc[b], ocLevel := p.oc[b], pgLevel := p.pg[b] }

/-- The release of RESET#: every block at its hardware reset values, the level records at the pins, no record, no
all-off (R122). D7-D0 are driven as before (R157). The queue of commands, the model's two counters and the value last
read are not the part's to reset (log 20). -/
def State.releaseReset (s : State) : State :=
  { State.reset with
    pins := { s.pins with reset := false }
    branches := Vector.ofFn (BranchRec.released s.pins)
    load := LoadManager.released s.pins
    estop := s.pins.estop
    window := { Window.default with dataOut := s.window.dataOut, driving := s.window.driving }
    free := s.free
    grantWait := s.grantWait
    pending := s.pending }

/-- ALLOFF (R114). -/
def execAllOff (s : State) : Host.Outcome State Fault Refusal := .next (s.whenRunning State.allOffCommand)

/-- RESTART (R118). -/
def execRestart (s : State) : Host.Outcome State Fault Refusal := .next (s.whenRunning State.restartCommand)

/-- ESTOP_ASSERTION (R111). -/
def execEstopAssertion (s : State) : Host.Outcome State Fault Refusal :=
  .next (if s.pins.estop then s else { s with pins.estop := true }.whenRunning State.takeEstopAssertion)

/-- ESTOP_RELEASE: the level record, and nothing else (R111, R117). -/
def execEstopRelease (s : State) : Host.Outcome State Fault Refusal :=
  .next (if !s.pins.estop then s
    else { s with pins.estop := false }.whenRunning fun s => { s with estop := false })

/-- RESET_ASSERTION (R121). -/
def execResetAssertion (s : State) : Host.Outcome State Fault Refusal :=
  .next (if s.pins.reset then s else { s with pins.reset := true }.holdReset)

/-- HARDWARE_RESET, the release of RESET# (R122); with RESET# released it stands for a whole pulse (log 11). -/
def execHardwareReset (s : State) : Host.Outcome State Fault Refusal := .next s.releaseReset

end Sys2Proof.Machine
end

