-- ==== Sys2Proof/Machine/Interrupt.lean ====
section
/-! DEFINITION. Trip Digest and Interrupt Output (chapter 9): DIGESTCLR, the acknowledge and the enable write. INT# is
`State.intOut` in Machine/Flags.lean. -/

namespace Sys2Proof.Machine

/-- DIGESTCLR empties the trip digest (R142). -/
def State.digestClrCommand (s : State) : State := { s with digest := Digest.default }.withResult .done

/-- An acknowledge removes the latched sources that the value names (R146). -/
def State.acknowledge (s : State) (v : Byte) : State :=
  if sourcesInRange v then { s with irq.pending := s.irq.pending.acknowledge v }.withWstat .ok
  else s.withWstat .range

/-- A write to IRQEN sets the enable set to exactly the sources the value names (R147). -/
def State.writeIrqen (s : State) (v : Byte) : State :=
  if sourcesInRange v then { s with irq.enable := EnableSet.named v }.withWstat .ok else s.withWstat .range

/-- DIGESTCLR (R142). -/
def execDigestClr (s : State) : Host.Outcome State Fault Refusal := .next (s.whenRunning State.digestClrCommand)

/-- IRQPEND_ACKNOWLEDGE (R146). -/
def execIrqpendAcknowledge (v : Byte) (s : State) : Host.Outcome State Fault Refusal :=
  .next (s.whenRunning fun s => s.acknowledge v)

/-- IRQEN_WRITE (R147). -/
def execIrqenWrite (v : Byte) (s : State) : Host.Outcome State Fault Refusal :=
  .next (s.whenRunning fun s => s.writeIrqen v)

end Sys2Proof.Machine
end

