-- ==== Sys2Proof/Machine/Log.lean ====
section
/-! DEFINITION. Event Log (chapter 8): the head frame, LOGDATA, LOGADV, LOGCLR and LOGTHR. -/

namespace Sys2Proof.Machine

/-- One byte of a record's frame (R132, R169); an absent field reads 0. -/
def LogRecord.frameByte (r : LogRecord) (i : Fin 9) : Byte :=
  match i.val with
  | 0 => r.seq
  | 1 => BitVec.ofNat 8 r.kind.code
  | 2 => BitVec.ofNat 8 (branchCode r.branch)
  | 3 => BitVec.ofNat 8 (r.cause.elim 0 RecordCause.code)
  | 4 => BitVec.ofNat 8 r.detail
  | 5 => BitVec.ofNat 8 (r.phase.elim 0 Phase.code)
  | 6 => r.time.setWidth 8
  | 7 => (r.time >>> 8).setWidth 8
  | _ => r.gap.getD 0

/-- The byte of the head frame at LOGIDX, or 0 with the log empty (R132). -/
def EventLog.headByte (l : EventLog) : Byte :=
  match l.records with
  | [] => 0
  | r :: _ => r.frameByte l.idx

/-- A read of LOGDATA returns the head frame byte and advances LOGIDX, from 8 to 0 (R132). -/
def State.readLogdata (s : State) : State :=
  { s with window.dataOut := s.log.headByte, log.idx := s.log.idx + 1 }

/-- LOGADV removes the head record (R134). -/
def State.logAdvCommand (s : State) : State :=
  match s.log.records with
  | [] => s.withResult .wrongState
  | _ :: rest => { s with log.records := rest, log.idx := 0 }.withResult .done

/-- LOGCLR empties the log and forgets the losses (R135). -/
def State.logClrCommand (s : State) : State :=
  { s with log.records := [], log.lost := 0, log.idx := 0 }.withResult .done

/-- A write to LOGTHR (R137). -/
def State.writeLogthr (s : State) (v : Byte) : State :=
  if logthrInRange v then { s with log.thr := v }.withWstat .ok else s.withWstat .range

/-- LOGDATA_READ (R132); while RESET# is asserted a read returns 00h without a side effect (R121). -/
def execLogdataRead (s : State) : Host.Outcome State Fault Refusal :=
  .next (if s.pins.reset then { s with window.dataOut := 0 } else s.readLogdata)

/-- LOGADV (R134). -/
def execLogAdv (s : State) : Host.Outcome State Fault Refusal := .next (s.whenRunning State.logAdvCommand)

/-- LOGCLR (R135). -/
def execLogClr (s : State) : Host.Outcome State Fault Refusal := .next (s.whenRunning State.logClrCommand)

/-- LOGTHR_WRITE (R137). -/
def execLogthrWrite (v : Byte) (s : State) : Host.Outcome State Fault Refusal :=
  .next (s.whenRunning fun s => s.writeLogthr v)

end Sys2Proof.Machine
end

