-- ==== Sys2Proof/Machine/Sign.lean ====
section
/-! DEFINITION. Profile Signature (chapter 10): SIGN, the CRC-16 and the signature record expiry. -/

namespace Sys2Proof.Machine

/-- One step of the register: shifted left, and combined with 1021h if a 1 was shifted out (R151). -/
def crcStep (c : Half) : Half := if c.msb then (c <<< 1) ^^^ 0x1021 else c <<< 1

/-- The register stepped n times (R151). -/
def crcSteps : Nat → Half → Half
  | 0, c => c
  | n + 1, c => crcSteps n (crcStep c)

/-- A byte folded into the register: combined with its upper eight bits, then eight steps (R151). -/
def crcByte (c : Half) (v : Byte) : Half := crcSteps 8 (c ^^^ (v.setWidth 16 <<< 8))

/-- The record of a branch: its number, then its eight profile bytes in the order of their locations (R151). -/
def recordBytes (b : Branch) (p : Profile) : List Byte :=
  BitVec.ofNat 8 (branchNumber b) ::
    [p.fetch .priority, p.fetch .budget, p.fetch .deadbase, p.fetch .options, p.fetch .ocqual, p.fetch .blank,
      p.fetch .rise, p.fetch .settle]

/-- The record of a branch folded into the register (R151). -/
def crcRecord (c : Half) (b : Branch) (p : Profile) : Half := (recordBytes b p).foldl crcByte c

/-- An operation starts over the records of `first` and up to `more` further branches, clamped at branch 8 (R150). -/
def State.startSignature (s : State) (first more : Branch) : State :=
  { s with
    sig := { state := .running, first := first, last := ⟨min (first.val + more.val) 7, by omega⟩,
             progress := some first, crc := 0xFFFF, timer := some signatureTicks } }

/-- SIGN: the arguments, then the engine state (R150). ARG1 is the count, 1 to 8. -/
def State.signCommand (s : State) : State :=
  match branchArgument s.window.arg0, branchArgument s.window.arg1 with
  | some first, some more =>
    if s.sig.state = .running then s.withResult .busy else (s.startSignature first more).withResult .done
  | _, _ => s.withResult .badArg

/-- The expiry of the signature record timer folds the progress branch's record, and advances or ends the operation
(R152). -/
def State.expireSignature (s : State) : State :=
  if s.sig.timer.isNone then s
  else
    match s.sig.state, s.sig.progress with
    | .running, some b =>
      let s := { s with sig.crc := crcRecord s.sig.crc b (s.br b).profile }
      if h : b < s.sig.last then
        { s with sig.progress := some ⟨b.val + 1, Nat.lt_of_le_of_lt (Fin.lt_def.mp h) s.sig.last.isLt⟩, sig.timer := some signatureTicks }
      else s.endSignature .done
    | _, _ => { s with sig.timer := none }

/-- SIGN (R150). -/
def execSign (s : State) : Host.Outcome State Fault Refusal := .next (s.whenRunning State.signCommand)

/-- SIGNATURE_RECORD_EXPIRY (R152). -/
def execSignatureRecordExpiry (s : State) : Host.Outcome State Fault Refusal :=
  .next (s.whenClocked State.expireSignature)

end Sys2Proof.Machine
end

