-- ==== Sys2Proof/Machine/Window.lean ====
section
/-! DEFINITION. Host Register Window (chapter 11): what a read of each location returns, the writes of the locations
that have no row of their own, and the write of a code to CMD. -/

namespace Sys2Proof.Machine

/-! ### Reads -/

/-- BSTATE (R15, R167). -/
def BranchRec.bstate (r : BranchRec) : Byte := BitVec.ofNat 8 (r.state.code + 16 * r.attempts)

/-- BPINS (R19, R167). -/
def State.bpins (s : State) (b : Branch) : Byte :=
  BitVec.ofNat 8 (bitAt (s.br b).scLevel 0 + bitAt (s.br b).ocLevel 1 + bitAt (s.br b).pgLevel 2
    + bitAt (s.onOut b) 3 + bitAt (s.inFlightFlag b) 4)

/-- LMSTAT (R107, R167). -/
def State.lmstat (s : State) : Byte :=
  BitVec.ofNat 8 (s.load.mode.code + bitAt s.load.qualified 2 + bitAt s.load.supovl 3 + bitAt s.load.buslo 4
    + bitAt s.estop 5 + bitAt s.load.exhausted 6)

/-- QSTAT (R84, R167). -/
def Arbiter.qstat (a : Arbiter) : Byte := BitVec.ofNat 8 (a.queue.length + 16 * a.inrushCount)

/-- SSTAT (R108, R167). -/
def LoadManager.sstat (l : LoadManager) : Byte := BitVec.ofNat 8 (l.stack.length + 16 * branchCode l.inFlight)

/-- VIEW (R85, R108). -/
def State.view (s : State) : Byte :=
  BitVec.ofNat 8 (branchCode (match s.window.viewsel with
    | .queue k => s.arbiter.queue[k.val]?
    | .stack k => s.load.stack[k.val]?))

/-- DIGEST (R141, R167). -/
def Digest.read (d : Digest) : Byte := BitVec.ofNat 8 (d.code + 16 * branchCode d.first)

/-- TRIPSET (R141, R167): bit n - 1 for branch n. -/
def Digest.tripset (d : Digest) : Byte := BitVec.ofNat 8 ((allBranches.map fun b => bitAt d.trips[b] b.val).sum)

/-- SIGSTAT (R155, R167). -/
def Signature.sigstat (g : Signature) : Byte := BitVec.ofNat 8 (g.state.code + 16 * branchCode g.progress)

/-- IRQPEND: every active source (R145, R167). -/
def State.irqpend (s : State) : Byte :=
  let p := s.irq.pending
  BitVec.ofNat 8 (bitAt s.log.condition 0 + bitAt p.trip 1 + bitAt p.lock 2 + bitAt p.shedLoss 3 + bitAt p.stress 4
    + bitAt p.sign 5)

/-- IRQEN (R147, R167). -/
def EnableSet.read (e : EnableSet) : Byte :=
  BitVec.ofNat 8 (bitAt e.log 0 + bitAt e.trip 1 + bitAt e.lock 2 + bitAt e.shedLoss 3 + bitAt e.stress 4
    + bitAt e.sign 5)

/-- What a read of each location returns (section 11.2); 00h while RESET# is asserted and at locations not implemented
(R121, R160). -/
def State.readLocation (s : State) (loc : Loc) : Byte :=
  if s.pins.reset then 0
  else
    let r := s.br s.window.bptr
    match loc.toNat with
    | 0x00 => BitVec.ofNat 8 s.window.result.code
    | 0x01 => s.window.arg0
    | 0x02 => s.window.arg1
    | 0x03 => BitVec.ofNat 8 (branchNumber s.window.bptr)
    | 0x04 => r.profile.fetch .priority
    | 0x05 => r.profile.fetch .budget
    | 0x06 => r.profile.fetch .deadbase
    | 0x07 => r.profile.fetch .options
    | 0x08 => r.profile.fetch .ocqual
    | 0x09 => r.profile.fetch .blank
    | 0x0A => r.profile.fetch .rise
    | 0x0B => r.profile.fetch .settle
    | 0x0C => r.bstate
    | 0x0D => BitVec.ofNat 8 (r.lastCause.elim 0 TripCause.code)
    | 0x0E => s.bpins s.window.bptr
    | 0x0F => BitVec.ofNat 8 s.window.wstat.code
    | 0x10 => s.time.prescale
    | 0x11 => s.arbiter.slots
    | 0x12 => s.arbiter.stagger
    | 0x13 => s.pgqual
    | 0x14 => s.load.stressqual
    | 0x15 => s.load.shedivl
    | 0x16 => s.load.holdTime
    | 0x17 => s.load.rspace
    | 0x18 => s.log.thr
    | 0x19 => s.lmstat
    | 0x1A => s.arbiter.qstat
    | 0x1B => s.load.sstat
    | 0x1C => BitVec.ofNat 8 s.window.viewsel.code
    | 0x1D => s.view
    | 0x1E => BitVec.ofNat 8 s.log.records.length
    | 0x1F => s.log.lost
    | 0x20 => s.log.headByte
    | 0x21 => BitVec.ofNat 8 s.log.idx.val
    | 0x22 => s.digest.read
    | 0x23 => s.digest.tripset
    | 0x24 => s.sig.sigstat
    | 0x25 => s.sig.crc.setWidth 8
    | 0x26 => (s.sig.crc >>> 8).setWidth 8
    | 0x27 => s.irqpend
    | 0x28 => s.irq.enable.read
    | 0x29 => s.time.ms.setWidth 8
    | 0x2A => s.time.mshi
    | _ => 0

/-! ### Writes -/

/-- A write to a location without a row of its own: its owner's range rule, or READONLY for the read-only and the
unimplemented locations (R53, R81, R109, R133, R160 to R163). -/
def State.writeOther (s : State) (loc : Loc) (v : Byte) : State :=
  match loc.toNat with
  | 0x01 => { s with window.arg0 := v }.withWstat .ok
  | 0x02 => { s with window.arg1 := v }.withWstat .ok
  | 0x03 =>
    match bptrOf v with
    | some b => { s with window.bptr := b }.withWstat .ok
    | none => s.withWstat .range
  | 0x12 => { s with arbiter.stagger := v }.withWstat .ok
  | 0x13 => if nonzeroInRange v then { s with pgqual := v }.withWstat .ok else s.withWstat .range
  | 0x14 => { s with load.stressqual := v }.withWstat .ok
  | 0x15 => if nonzeroInRange v then { s with load.shedivl := v }.withWstat .ok else s.withWstat .range
  | 0x16 => if nonzeroInRange v then { s with load.holdTime := v }.withWstat .ok else s.withWstat .range
  | 0x17 => if nonzeroInRange v then { s with load.rspace := v }.withWstat .ok else s.withWstat .range
  | 0x1C =>
    match viewselOf v with
    | some p => { s with window.viewsel := p }.withWstat .ok
    | none => s.withWstat .range
  | 0x21 =>
    match logidxOf v with
    | some i => { s with log.idx := i }.withWstat .ok
    | none => s.withWstat .range
  | _ => s.withWstat .readonly

/-- A write to 00h runs the command of its code, or sets RESULT to UNKNOWN (R164). -/
def State.writeCmd (s : State) (code : Byte) : State :=
  match code.toNat with
  | 0x01 => s.closeCommand
  | 0x02 => s.openCommand
  | 0x03 => s.rearmCommand
  | 0x10 => s.allOffCommand
  | 0x11 => s.restartCommand
  | 0x20 => s.signCommand
  | 0x30 => s.digestClrCommand
  | 0x31 => s.logAdvCommand
  | 0x32 => s.logClrCommand
  | _ => s.withResult .unknown

/-- A write of a value to any location, handed to its owner (R158, R166). -/
def State.writeLocation (s : State) (loc : Loc) (v : Byte) : State :=
  match profileFieldAt loc with
  | some f => s.writeProfile f v
  | none =>
    match loc.toNat with
    | 0x00 => s.writeCmd v
    | 0x10 => s.writePrescale v
    | 0x11 => s.writeSlots v
    | 0x18 => s.writeLogthr v
    | 0x27 => s.acknowledge v
    | 0x28 => s.writeIrqen v
    | _ => s.writeOther loc v

/-- UNKNOWN_COMMAND: a write of the code to CMD (R164). A code that has a row of its own runs that command, as the same
write does on the bus (log 16). -/
def execUnknownCommand (code : Byte) (s : State) : Host.Outcome State Fault Refusal :=
  .next (s.whenRunning fun s => s.writeCmd code)

/-- REGISTER_WRITE: a write of the value to the location (R166). A location that has a row of its own is written by
that row's rule, as the same write is on the bus (log 16). -/
def execRegisterWrite (loc : Loc) (v : Byte) (s : State) : Host.Outcome State Fault Refusal :=
  .next (s.whenRunning fun s => s.writeLocation loc v)

end Sys2Proof.Machine
end

