-- ==== Sys2Proof/Machine/Dispatch.lean ====
section
/-! DEFINITION. One arm per command, in the order of spec/opcode_table.json. -/

namespace Sys2Proof.Machine

def exec (i : Instr) (s : State) : Host.Outcome State Fault Refusal :=
  match i with
  | .close => Sys2Proof.Machine.execClose s
  | .openBranch => Sys2Proof.Machine.execOpenBranch s
  | .rearm => Sys2Proof.Machine.execRearm s
  | .allOff => Sys2Proof.Machine.execAllOff s
  | .restart => Sys2Proof.Machine.execRestart s
  | .sign => Sys2Proof.Machine.execSign s
  | .digestClr => Sys2Proof.Machine.execDigestClr s
  | .logAdv => Sys2Proof.Machine.execLogAdv s
  | .logClr => Sys2Proof.Machine.execLogClr s
  | .unknownCommand code => Sys2Proof.Machine.execUnknownCommand code s
  | .msloRead => Sys2Proof.Machine.execMsloRead s
  | .logdataRead => Sys2Proof.Machine.execLogdataRead s
  | .profileWrite f v => Sys2Proof.Machine.execProfileWrite f v s
  | .prescaleWrite v => Sys2Proof.Machine.execPrescaleWrite v s
  | .slotsWrite v => Sys2Proof.Machine.execSlotsWrite v s
  | .irqpendAcknowledge v => Sys2Proof.Machine.execIrqpendAcknowledge v s
  | .irqenWrite v => Sys2Proof.Machine.execIrqenWrite v s
  | .logthrWrite v => Sys2Proof.Machine.execLogthrWrite v s
  | .registerWrite loc v => Sys2Proof.Machine.execRegisterWrite loc v s
  | .scAssertion n => Sys2Proof.Machine.execScAssertion n s
  | .scRelease n => Sys2Proof.Machine.execScRelease n s
  | .ocAssertion n => Sys2Proof.Machine.execOcAssertion n s
  | .ocRelease n => Sys2Proof.Machine.execOcRelease n s
  | .pgAssertion n => Sys2Proof.Machine.execPgAssertion n s
  | .pgRelease n => Sys2Proof.Machine.execPgRelease n s
  | .stressInputAssertion input => Sys2Proof.Machine.execStressInputAssertion input s
  | .stressInputRelease input => Sys2Proof.Machine.execStressInputRelease input s
  | .estopAssertion => Sys2Proof.Machine.execEstopAssertion s
  | .estopRelease => Sys2Proof.Machine.execEstopRelease s
  | .resetAssertion => Sys2Proof.Machine.execResetAssertion s
  | .hardwareReset => Sys2Proof.Machine.execHardwareReset s
  | .millisecondBoundary => Sys2Proof.Machine.execMillisecondBoundary s
  | .ocQualifyExpiry n => Sys2Proof.Machine.execOcQualifyExpiry n s
  | .pgLossExpiry n => Sys2Proof.Machine.execPgLossExpiry n s
  | .blankingExpiry n => Sys2Proof.Machine.execBlankingExpiry n s
  | .riseExpiry n => Sys2Proof.Machine.execRiseExpiry n s
  | .deadExpiry n => Sys2Proof.Machine.execDeadExpiry n s
  | .settleExpiry n => Sys2Proof.Machine.execSettleExpiry n s
  | .staggerExpiry => Sys2Proof.Machine.execStaggerExpiry s
  | .stressQualifyExpiry => Sys2Proof.Machine.execStressQualifyExpiry s
  | .shedIntervalExpiry => Sys2Proof.Machine.execShedIntervalExpiry s
  | .holdExpiry => Sys2Proof.Machine.execHoldExpiry s
  | .restoreSpacingExpiry => Sys2Proof.Machine.execRestoreSpacingExpiry s
  | .signatureRecordExpiry => Sys2Proof.Machine.execSignatureRecordExpiry s
  | .grant => Sys2Proof.Machine.execGrant s

end Sys2Proof.Machine
end

