-- ==== Sys2Proof/Machine/Bus.lean ====
section
/-! DEFINITION. The host bus line by line (section 11.1): what an access does to the part, and what a change of CS#, RD#,
WR#, A5-A0 and D7-D0 does. The table's rows are whole accesses, so `step` does not use these functions (log 18). -/

namespace Sys2Proof.Machine

/-- A bus access is taken: the command that it is; a read without a side effect, which has no row, puts the location's
contents on D7-D0 and changes nothing else (R157, R158, R160). -/
def State.takeAccess (s : State) (a : BusAccess) : Host.Outcome State Fault Refusal :=
  match a with
  | .write loc v => exec (writeCommand loc v) s
  | .read loc =>
    match accessCommand (.read loc) with
    | some c => exec c s
    | none => .next { s with window.dataOut := s.readLocation loc }

/-- The host changes its lines of the bus. The part starts or stops driving D7-D0, and takes the access that the change is,
if it is one; no other change touches the value on D7-D0 (R157, R158). -/
def State.takeBusChange (s : State) (lines : BusPins) : Host.Outcome State Fault Refusal :=
  let t := { s with pins.bus := lines, window.driving := s.pins.bus.drives s.window.driving lines }
  match s.pins.bus.accessTaken lines with
  | some a => t.takeAccess a
  | none => .next t

end Sys2Proof.Machine
end

