-- ==== Sys2Proof/Safety.lean ====
section
/-! DEFINITION. What the manual calls the laws of the part, as predicates on a state. Each holds at reset and is kept by
every step (Certificates/Slice0/Obligations.lean states it). Where a law needs a neighbour's fact to be kept, the two
stand in one predicate. -/

namespace Sys2Proof.Machine

/-- The number of branches in a state. -/
def State.countIn (s : State) (st : BranchState) : Nat := allBranches.countP fun b => (s.br b).state == st

/-- A timer of a branch runs only in the state that section 2.4 lists it for; a branch in DEAD runs its dead timer, and
a branch in ON runs its settle timer exactly while its attempt count is above 0 (R22, R59, R63, R64). -/
def BranchRec.timersLawful (r : BranchRec) : Prop :=
  (r.state ≠ .inrush → r.blanking = none ∧ r.rise = none)
    ∧ (r.state ≠ .on → r.ocQualify = none ∧ r.pgLoss = none ∧ r.settle = none)
    ∧ (r.state = .on → (r.settle.isSome = true ↔ 0 < r.attempts))
    ∧ (r.dead.isSome = true ↔ r.state = .dead)

/-- The attempt count never exceeds BUDGET, is 0 in OFF, at least 1 in DEAD and equal to BUDGET in LOCKOUT
(R16, R56, R57). -/
def BranchRec.attemptsLawful (r : BranchRec) : Prop :=
  r.attempts ≤ r.profile.budget.toNat ∧ (r.state = .off → r.attempts = 0) ∧ (r.state = .dead → 1 ≤ r.attempts)
    ∧ (r.state = .lockout → r.attempts = r.profile.budget.toNat)

/-- Every branch keeps its timers and its attempt count lawful. -/
def State.branchesLawful (s : State) : Prop := ∀ b, (s.br b).timersLawful ∧ (s.br b).attemptsLawful

/-- Every writable setting is in its range (R4, R12, R53, R76, R109, R137). -/
def State.settingsLawful (s : State) : Prop :=
  (∀ b, let p := (s.br b).profile
    p.priority.toNat ≤ 7 ∧ p.budget.toNat ≤ 7 ∧ 1 ≤ p.deadbase.toNat ∧ 1 ≤ p.blank.toNat ∧ 1 ≤ p.rise.toNat
      ∧ 1 ≤ p.settle.toNat)
    ∧ (1 ≤ s.time.prescale.toNat ∧ s.time.prescale.toNat ≤ 32)
    ∧ (1 ≤ s.arbiter.slots.toNat ∧ s.arbiter.slots.toNat ≤ 3)
    ∧ 1 ≤ s.pgqual.toNat ∧ 1 ≤ s.load.shedivl.toNat ∧ 1 ≤ s.load.holdTime.toNat ∧ 1 ≤ s.load.rspace.toNat
    ∧ (1 ≤ s.log.thr.toNat ∧ s.log.thr.toNat ≤ 16)

/-- The close queue holds exactly the branches in QUEUED, each once, by PRIORITY ascending (R70). -/
def State.queueLawful (s : State) : Prop :=
  s.arbiter.queue.Nodup ∧ (∀ b, b ∈ s.arbiter.queue ↔ (s.br b).state = .queued)
    ∧ s.arbiter.queue.Pairwise fun a b => s.priority a ≤ s.priority b

/-- The inrush count is the number of branches in INRUSH, and never exceeds SLOTS (R74). -/
def State.slotsLawful (s : State) : Prop :=
  s.arbiter.inrushCount = s.countIn .inrush ∧ s.arbiter.inrushCount ≤ s.arbiter.slots.toNat

/-- The shed stack holds exactly the branches in SHED, each once, never more than four, none of PRIORITY 0 (R94). -/
def State.stackLawful (s : State) : Prop :=
  s.load.stack.Nodup ∧ (∀ b, b ∈ s.load.stack ↔ (s.br b).state = .shed)
    ∧ s.load.stack.length ≤ Config.stackCapacity ∧ ∀ b ∈ s.load.stack, 1 ≤ s.priority b

/-- Each load manager state has its timer, its stack and its flight as section 6.2 lists them; a branch in flight is in
QUEUED or INRUSH, has PRIORITY 1 or more, and finds a free place on the stack for its recall (R90, R91, R94, R103,
R105). -/
def State.loadLawful (s : State) : Prop :=
  (∀ b, s.load.inFlight = some b →
      s.load.mode = .restoring ∧ ((s.br b).state = .queued ∨ (s.br b).state = .inrush)
        ∧ 1 ≤ s.priority b ∧ s.load.stack.length < Config.stackCapacity)
    ∧ (s.load.shedTimer.isSome = true ↔ s.load.mode = .shedding)
    ∧ (s.load.holdTimer.isSome = true ↔ s.load.mode = .hold)
    ∧ (s.load.spacingTimer.isSome = true ↔ s.load.mode = .restoring ∧ s.load.inFlight = none)
    ∧ (s.load.mode = .calm → s.load.stack = [])
    ∧ (s.load.exhausted = true → s.load.mode = .shedding)
    ∧ (s.load.mode = .shedding → s.load.qualified = true)
    ∧ (s.load.mode = .hold ∨ s.load.mode = .restoring → s.load.qualified = false)

/-- Queue, slots, stack and load manager together: each needs the others to be kept. -/
def State.admissionLawful (s : State) : Prop :=
  s.queueLawful ∧ s.slotsLawful ∧ s.stackLawful ∧ s.loadLawful

/-- While ESTOP# is asserted every branch is OFF or LOCKOUT (R115). -/
def State.estopLawful (s : State) : Prop :=
  s.estop = true → ∀ b, (s.br b).state = .off ∨ (s.br b).state = .lockout

/-- Qualified stress is present only while raw stress is present, and never while the qualify timer runs; outside
RESET# a raw stress is qualified or being qualified (R88, R110). -/
def State.stressLawful (s : State) : Prop :=
  (s.load.qualified = true → s.load.rawStress = true) ∧ (s.load.qualifyTimer.isSome = true → s.load.rawStress = true)
    ∧ ¬(s.load.qualified = true ∧ s.load.qualifyTimer.isSome = true)
    ∧ (s.pins.reset = false → s.load.rawStress = true → s.load.qualified = true ∨ s.load.qualifyTimer.isSome = true)

/-- Outside RESET# every level record is the level of its pin (R32, R54, R87, R110, R111, R122). -/
def State.levelsLawful (s : State) : Prop :=
  s.pins.reset = false →
    (∀ b : Branch, (s.br b).scLevel = s.pins.sc[b] ∧ (s.br b).ocLevel = s.pins.oc[b] ∧ (s.br b).pgLevel = s.pins.pg[b])
      ∧ s.load.supovl = s.pins.supovl ∧ s.load.buslo = s.pins.buslo ∧ s.estop = s.pins.estop

/-- An armed input has had its effect: in INRUSH and ON SCn# is released; in ON the OC qualify timer runs exactly while
OCn# is asserted and the PG-loss timer exactly while PGn is released; INRUSH with blanking done has PGn released
(R35, R37, R41, R42, R44, R47 to R50). -/
def BranchRec.detectorLawful (r : BranchRec) : Prop :=
  (r.state = .inrush ∨ r.state = .on → r.scLevel = false)
    ∧ (r.state = .on → (r.ocQualify.isSome = true ↔ r.ocLevel = true) ∧ (r.pgLoss.isSome = true ↔ r.pgLevel = false))
    ∧ (r.blankingDone = true → r.pgLevel = false)

/-- Every trip detector has acted on its armed inputs. -/
def State.detectorLawful (s : State) : Prop := ∀ b, (s.br b).detectorLawful

/-- The fields of a record are present by its kind, and no absent field holds a value; a present gap is not 0
(R124). -/
def LogRecord.lawful (r : LogRecord) : Prop :=
  (r.branch.isSome = true ↔ r.kind ≠ .exhausted ∧ r.kind ≠ .allOff ∧ r.kind ≠ .restart)
    ∧ (r.phase.isSome = true ↔ r.kind = .trip ∨ r.kind = .lockout)
    ∧ (match r.cause with
      | some (.trip _) => r.kind = .trip ∨ r.kind = .lockout
      | some .pin | some .command => r.kind = .allOff
      | none => r.kind ≠ .trip ∧ r.kind ≠ .lockout ∧ r.kind ≠ .allOff)
    ∧ r.gap ≠ some 0

/-- The log holds at most 16 records, their sequence numbers are consecutive modulo 256 and end just below the sequence
counter (R126, R128), and every record is lawful (R124). -/
def EventLog.lawful (l : EventLog) : Prop :=
  l.records.length ≤ Config.logCapacity
    ∧ l.records.map (·.seq) =
        (List.range l.records.length).map (fun i => l.seq - BitVec.ofNat 8 (l.records.length - i))
    ∧ ∀ r ∈ l.records, r.lawful

/-- The first-tripped branch is absent exactly when the trip set is empty, and is a member otherwise (R140). -/
def Digest.lawful (d : Digest) : Prop :=
  (d.first = none ↔ d.members = []) ∧ ∀ b, d.first = some b → b ∈ d.members

/-- The signature engine has a progress branch, within its range, exactly while RUNNING; outside RESET# its record timer
runs exactly then, and while RESET# is held it does not run (chapter 10, R152, R155, R156). -/
def State.signatureLawful (s : State) : Prop :=
  (s.sig.progress.isSome = true ↔ s.sig.state = .running)
    ∧ (∀ b, s.sig.progress = some b → s.sig.first ≤ b ∧ b ≤ s.sig.last)
    ∧ (s.pins.reset = false → (s.sig.timer.isSome = true ↔ s.sig.state = .running))
    ∧ (s.pins.reset = true → s.sig.timer = none)

/-- The sub-millisecond count is below 1000, the position within the tick below the tick's length, which is 1 to 32
(section 1.1, R1, R2, R5), and a due grant has seen at most the tick ends that log 4 allows it (R79). -/
def State.timeLawful (s : State) : Prop :=
  s.time.subMs < Config.ticksPerMs ∧ s.time.divider < s.time.tickLength ∧ s.time.tickLength ≤ 32
    ∧ (1 ≤ s.time.prescale.toNat ∧ s.time.prescale.toNat ≤ 32) ∧ s.grantWait ≤ Config.grantTicks

/-- While RESET# is held every branch counts as OFF with its hardware reset profile, the queue and the stack are empty,
qualified stress is absent and the load manager is CALM (R31, R86, R110, R121). -/
def State.resetHeldLawful (s : State) : Prop :=
  s.pins.reset = true →
    (∀ b, (s.br b).state = .off ∧ (s.br b).profile = Profile.default) ∧ s.arbiter = Arbiter.default
      ∧ s.load.mode = .calm ∧ s.load.stack = [] ∧ s.load.inFlight = none ∧ s.load.qualified = false

/-! ### What an event does, in the manual's terms

The statements about single commands share these descriptions. Each gives the whole next state: what it does not name is
as before. -/

/-- RESET# is released, so the part takes events (R121). -/
abbrev State.running (s : State) : Prop := s.pins.reset = false

/-- RESET# is released and CLKIN runs, so ticks end and grants are taken (R1, R77, R121). -/
abbrev State.clocked (s : State) : Prop := s.pins.reset = false ∧ s.pins.clkin = true

/-- The input pins after a command: an event of SCn#, OCn#, PGn, SUPOVL#, BUSLO#, ESTOP# or RESET# changes the level of
its own pin, and every other command none (00_scope.md, sections 5 and 6.3). -/
def Pins.afterEvent (p : Pins) : Instr → Pins
  | .scAssertion n => { p with sc := p.sc.set n true }
  | .scRelease n => { p with sc := p.sc.set n false }
  | .ocAssertion n => { p with oc := p.oc.set n true }
  | .ocRelease n => { p with oc := p.oc.set n false }
  | .pgAssertion n => { p with pg := p.pg.set n true }
  | .pgRelease n => { p with pg := p.pg.set n false }
  | .stressInputAssertion i => p.setStressPin i true
  | .stressInputRelease i => p.setStressPin i false
  | .estopAssertion => { p with estop := true }
  | .estopRelease => { p with estop := false }
  | .resetAssertion => { p with reset := true }
  | .hardwareReset => { p with reset := false }
  | .close | .openBranch | .rearm | .allOff | .restart | .sign | .digestClr | .logAdv | .logClr => p
  | .unknownCommand _ | .msloRead | .logdataRead | .profileWrite _ _ | .prescaleWrite _ | .slotsWrite _ => p
  | .irqpendAcknowledge _ | .irqenWrite _ | .logthrWrite _ | .registerWrite _ _ => p
  | .millisecondBoundary | .ocQualifyExpiry _ | .pgLossExpiry _ | .blankingExpiry _ | .riseExpiry _ => p
  | .deadExpiry _ | .settleExpiry _ | .staggerExpiry | .stressQualifyExpiry | .shedIntervalExpiry => p
  | .holdExpiry | .restoreSpacingExpiry | .signatureRecordExpiry | .grant => p

/-- A command is the expiry of one of the twelve timers, and this timer stands at zero (R7). -/
def TimerAtZero (t : State) : Instr → Prop
  | .blankingExpiry n => (t.br n).blanking = some 0
  | .riseExpiry n => (t.br n).rise = some 0
  | .ocQualifyExpiry n => (t.br n).ocQualify = some 0
  | .pgLossExpiry n => (t.br n).pgLoss = some 0
  | .deadExpiry n => (t.br n).dead = some 0
  | .settleExpiry n => (t.br n).settle = some 0
  | .staggerExpiry => t.arbiter.staggerTimer = some 0
  | .stressQualifyExpiry => t.load.qualifyTimer = some 0
  | .shedIntervalExpiry => t.load.shedTimer = some 0
  | .holdExpiry => t.load.holdTimer = some 0
  | .restoreSpacingExpiry => t.load.spacingTimer = some 0
  | .signatureRecordExpiry => t.sig.timer = some 0
  | .close | .openBranch | .rearm | .allOff | .restart | .sign | .digestClr | .logAdv | .logClr => False
  | .unknownCommand _ | .msloRead | .logdataRead | .profileWrite _ _ | .prescaleWrite _ | .slotsWrite _ => False
  | .irqpendAcknowledge _ | .irqenWrite _ | .logthrWrite _ | .registerWrite _ _ => False
  | .scAssertion _ | .scRelease _ | .ocAssertion _ | .ocRelease _ | .pgAssertion _ | .pgRelease _ => False
  | .stressInputAssertion _ | .stressInputRelease _ | .estopAssertion | .estopRelease => False
  | .resetAssertion | .hardwareReset | .millisecondBoundary | .grant => False

/-- From s with no command waiting, the end of a tick leads to t: every running timer has one tick less, the queue holds
each due expiry once and, with the sub-millisecond count at 999, a millisecond boundary, and nothing else; the free-value
counter and the tick ends that a due grant has seen are left to the statement (R1, R2, R5, R7; log 2, log 3). -/
def TickEndEffect (s t : State) : Prop :=
  (∀ b, t.br b =
      { s.br b with
        blanking := (s.br b).blanking.map (· - 1), rise := (s.br b).rise.map (· - 1),
        ocQualify := (s.br b).ocQualify.map (· - 1), pgLoss := (s.br b).pgLoss.map (· - 1),
        dead := (s.br b).dead.map (· - 1), settle := (s.br b).settle.map (· - 1) })
    ∧ t.arbiter = { s.arbiter with staggerTimer := s.arbiter.staggerTimer.map (· - 1) }
    ∧ t.load = { s.load with
        qualifyTimer := s.load.qualifyTimer.map (· - 1), shedTimer := s.load.shedTimer.map (· - 1),
        holdTimer := s.load.holdTimer.map (· - 1), spacingTimer := s.load.spacingTimer.map (· - 1) }
    ∧ t.sig = { s.sig with timer := s.sig.timer.map (· - 1) }
    ∧ t.time = { s.time with
        divider := 0, tickLength := s.time.prescale.toNat,
        subMs := if s.time.subMs < 999 then s.time.subMs + 1 else s.time.subMs }
    ∧ t.pending.Nodup
    ∧ (∀ c, c ∈ t.pending ↔ TimerAtZero t c ∨ (c = .millisecondBoundary ∧ 999 ≤ s.time.subMs))
    ∧ t.pgqual = s.pgqual ∧ t.estop = s.estop ∧ t.log = s.log ∧ t.digest = s.digest ∧ t.irq = s.irq
    ∧ t.window = s.window ∧ t.pins = s.pins

/-- The state with the part's own grant in the empty queue (log 4). -/
def State.withGrant (s : State) : State := { s with pending := [.grant], free := s.free + 1, grantWait := 0 }

/-- The load manager after branch b has completed, tripped or been opened: the end of its flight if it is the branch in
flight (R104). -/
def LoadManager.afterFlight (l : LoadManager) (b : Branch) : LoadManager :=
  if l.inFlight = some b then
    if l.stack = [] then { l with inFlight := none, mode := .calm }
    else { l with inFlight := none, spacingTimer := some (l.rspace.toNat * 10000) }
  else l

/-- The record of a branch with the detector and settle timers that ON may run all cancelled (R22). -/
def BranchRec.withoutOnTimers (r : BranchRec) : BranchRec := { r with ocQualify := none, pgLoss := none, settle := none }

/-- The record of a branch with the timers that INRUSH may run cancelled (R22). -/
def BranchRec.withoutInrushTimers (r : BranchRec) : BranchRec := { r with blanking := none, rise := none }

/-- The record of a branch after its entry to OFF: the timers of the state left cancelled, the attempt count 0, the last
trip cause kept (R17, R22). -/
def BranchRec.intoOff (r : BranchRec) : BranchRec :=
  match r.state with
  | .inrush => { r.withoutInrushTimers with state := .off, attempts := 0 }
  | .on => { r.withoutOnTimers with state := .off, attempts := 0 }
  | .dead => { r with state := .off, attempts := 0, dead := none }
  | .off | .queued | .lockout | .shed => { r with state := .off, attempts := 0 }

/-- The dead time in ticks: DEADBASE x 10 ms, x 2^(attempt - 1) with the escalation flag (R59). -/
def deadTime (p : Profile) (attempt : Nat) : Nat :=
  if p.escalation then p.deadbase.toNat * 10000 * 2 ^ (attempt - 1) else p.deadbase.toNat * 10000

/-- From s, a trip of branch b with this cause and phase leads to t (R55, R56, R57, R59, R140). -/
def TripEffect (s t : State) (b : Branch) (cause : TripCause) (phase : Phase) : Prop :=
  let r := s.br b
  let left := if phase = .inrush then r.withoutInrushTimers else r.withoutOnTimers
  let below := r.attempts < r.profile.budget.toNat
  t = { s with
        branches := s.branches.set b
          (if below then
            { left with state := .dead, attempts := r.attempts + 1, lastCause := some cause,
                        dead := some (deadTime r.profile (r.attempts + 1)) }
           else { left with state := .lockout, lastCause := some cause })
        arbiter.inrushCount := if phase = .inrush then s.arbiter.inrushCount - 1 else s.arbiter.inrushCount
        load := s.load.afterFlight b
        digest := { trips := s.digest.trips.set b true,
                    first := if s.digest.first = none then some b else s.digest.first }
        irq.pending.trip := true
        irq.pending.lock := if below then s.irq.pending.lock else true
        log := s.log.take
          { kind := if below then .trip else .lockout, branch := some b, cause := some (.trip cause),
            detail := if below then r.attempts + 1 else r.attempts, phase := some phase } s.time.ms }

/-- From s, the completion of branch b leads to t (R45, R47, R63). -/
def CompletionEffect (s t : State) (b : Branch) : Prop :=
  let r := s.br b
  let on := { r.withoutInrushTimers with
              state := .on, settle := if 0 < r.attempts then some (r.profile.settle.toNat * 100000) else r.settle }
  let m := { s with branches := s.branches.set b on, arbiter.inrushCount := s.arbiter.inrushCount - 1,
                    load := s.load.afterFlight b }
  if r.scLevel = true then TripEffect m t b .sc .on
  else if r.ocLevel = false then t = m
  else if r.profile.ocqual = 0 then TripEffect m t b .oc .on
  else t = { m with branches := s.branches.set b { on with ocQualify := some (r.profile.ocqual.toNat * 4) } }

/-- The victim of a shed step: ON, PRIORITY 1 or more, the largest PRIORITY, then the largest number (R97). -/
abbrev IsVictim (s : State) (v : Branch) : Prop :=
  (s.br v).state = .on ∧ 1 ≤ s.priority v
    ∧ ∀ c, (s.br c).state = .on → 1 ≤ s.priority c → s.priority c < s.priority v ∨ (s.priority c = s.priority v ∧ c ≤ v)

/-- From s, a shed step leads to t (R97 to R100). With the stack full, `init ++ [d]` is the stack and d its bottom. -/
def ShedStepEffect (s t : State) : Prop :=
  (∀ v, IsVictim s v → s.load.stack.length < 4 →
      t = { s with
            branches := s.branches.set v { (s.br v).withoutOnTimers with state := .shed }
            load.stack := v :: s.load.stack
            log := s.log.take
              { kind := .shed, branch := some v, cause := none, detail := s.load.stack.length + 1, phase := none }
              s.time.ms })
    ∧ (∀ v init d, IsVictim s v → s.load.stack = init ++ [d] → init.length = 3 → (s.br d).state = .shed →
      t = { s with
            branches := (s.branches.set v { (s.br v).withoutOnTimers with state := .shed }).set d
              { s.br d with state := .off, attempts := 0 }
            load.stack := v :: init
            irq.pending.shedLoss := true
            log := (s.log.take { kind := .shed, branch := some v, cause := none, detail := 4, phase := none }
                s.time.ms).take
              { kind := .drop, branch := some d, cause := none, detail := 0, phase := none } s.time.ms })
    ∧ ((∀ v, ¬IsVictim s v) → s.load.exhausted = true → t = s)
    ∧ ((∀ v, ¬IsVictim s v) → s.load.exhausted = false →
      t = { s with
            load.exhausted := true
            irq.pending.shedLoss := true
            log := s.log.take { kind := .exhausted, branch := none, cause := none, detail := 0, phase := none }
              s.time.ms })

/-- From s, the recall leads to m (R105). -/
def RecallEffect (s m : State) : Prop :=
  (s.load.inFlight = none → m = { s with load.spacingTimer := none })
    ∧ (∀ b front back, s.load.inFlight = some b → (s.br b).state = .queued → s.arbiter.queue = front ++ b :: back →
      b ∉ front → b ∉ back →
      m = { s with
            branches := s.branches.set b { s.br b with state := .shed }
            arbiter.queue := front ++ back
            load.spacingTimer := none
            load.inFlight := none
            load.stack := b :: s.load.stack
            log := s.log.take
              { kind := .recall, branch := some b, cause := none, detail := s.load.stack.length + 1, phase := none }
              s.time.ms })
    ∧ (∀ b, s.load.inFlight = some b → (s.br b).state ≠ .queued →
      m = { s with load.spacingTimer := none, load.inFlight := none })

/-- From s, a rise of qualified stress leads to t (R89, R91, R105). A rise in SHEDDING cannot be taken (log 17). -/
def RiseEffect (s t : State) : Prop :=
  let r := { s with irq.pending.stress := true, load.qualified := true }
  let interval := some (s.load.shedivl.toNat * 10000)
  match s.load.mode with
  | .calm => ShedStepEffect { r with load.mode := .shedding, load.shedTimer := interval } t
  | .hold => ShedStepEffect { r with load.holdTimer := none, load.mode := .shedding, load.shedTimer := interval } t
  | .restoring => ∃ m, RecallEffect r m ∧ ShedStepEffect { m with load.mode := .shedding, load.shedTimer := interval } t
  | .shedding => t = r

/-- From s, the restore step of the top branch b leads to t: it joins the close queue at its priority position between
`front` and `back` (R71, R102). -/
def RestoreEffect (s t : State) (b : Branch) (rest front back : List Branch) : Prop :=
  t = { s with
        branches := s.branches.set b { s.br b with state := .queued }
        arbiter.queue := front ++ b :: back
        load.mode := .restoring
        load.stack := rest
        load.inFlight := some b
        log := s.log.take
          { kind := .restore, branch := some b, cause := none, detail := rest.length, phase := none } s.time.ms }

/-- The queue falls into what stands ahead of a new entry for b and what stands behind it (R71). -/
abbrev QueueSplit (s : State) (b : Branch) (front back : List Branch) : Prop :=
  s.arbiter.queue = front ++ back ∧ (∀ c ∈ front, s.priority c ≤ s.priority b)
    ∧ ∀ c ∈ back, s.priority b < s.priority c

/-- From s, an all-off with this cause changes branches, queue, stack and log as t has them (R112, R113); window, ESTOP
level record and pins are left to the command. -/
def AllOffEffect (s t : State) (cause : RecordCause) : Prop :=
  (∀ b, t.br b = if (s.br b).state = .off ∨ (s.br b).state = .lockout then s.br b else (s.br b).intoOff)
    ∧ t.arbiter = { s.arbiter with queue := [], inrushCount := 0, staggerTimer := none }
    ∧ t.load = { s.load with
                 mode := .calm, stack := [], inFlight := none, exhausted := false, shedTimer := none, holdTimer := none,
                 spacingTimer := none }
    ∧ t.log = s.log.take
        { kind := .allOff, branch := none, cause := some cause,
          detail := s.countIn .queued + s.countIn .inrush + s.countIn .on + s.countIn .dead + s.countIn .shed,
          phase := none } s.time.ms
    ∧ t.time = s.time ∧ t.pgqual = s.pgqual ∧ t.digest = s.digest ∧ t.irq = s.irq ∧ t.sig = s.sig ∧ t.free = s.free
    ∧ t.grantWait = s.grantWait ∧ t.pending = s.pending

end Sys2Proof.Machine
end

