-- ==== Sys2Proof/Certificates/Slice0/Obligations.lean ====
section
/-! DEFINITION. The statements for the provers. OBLIGATIONS.json lists them with their tiers, rules and quotes. The
descriptions they share (TripEffect, CompletionEffect, ShedStepEffect, ...) are in Sys2Proof/Safety.lean. -/

open Sys2Proof Sys2Proof.Machine

/-! ### The queue of commands and the part's own time -/

/-- A step runs the command at the front of the queue on the state with the rest of the queue (log 1). -/
def Obligations.StepRunsTheFrontCommand : Prop :=
  ∀ (c : Instr) (rest : List Instr) (s : State),
    step { s with pending := c :: rest } = exec c { s with pending := rest }

/-- Every command answers a next state in every state, and leaves the queue of commands and the model's two counters as
they are (R159, log 1). -/
def Obligations.EveryCommandCompletesWithItsQueueKept : Prop :=
  ∀ (c : Instr) (s : State),
    ∃ t, exec c s = .next t ∧ t.pending = s.pending ∧ t.free = s.free ∧ t.grantWait = s.grantWait

/-- With no command waiting (model's choice, log 2): nothing happens while RESET# is asserted or CLKIN stopped (R1,
R121); inside a tick the position advances by one CLKIN period; a due grant may be taken at once (R77, log 4), and is
taken at once when it has seen as many tick ends as the "few ticks" of R79 are in the model (log 4). -/
def Obligations.IdleStepPassesOneClkinPeriod : Prop :=
  ∀ s : State, s.pending = [] →
    ((s.pins.reset = true ∨ s.pins.clkin = false) → step s = .next s)
    ∧ (s.clocked → s.grantCondition = false → s.time.divider + 1 < s.time.tickLength →
        step s = .next { s with time.divider := s.time.divider + 1, grantWait := 0 })
    ∧ (s.clocked → s.grantCondition = true → s.grantWait < Config.grantTicks →
        s.time.divider + 1 < s.time.tickLength →
        step s = .next s.withGrant
          ∨ step s = .next { s with time.divider := s.time.divider + 1, free := s.free + 1 })
    ∧ (s.clocked → s.grantCondition = true → Config.grantTicks ≤ s.grantWait → step s = .next s.withGrant)

/-- The last CLKIN period of a tick with no command waiting: every running timer has one tick less, the next tick has the
length that PRESCALE gives, the sub-millisecond count rises below 999, and the queue holds, each once and in an order left
open, exactly the expiries of the timers that stand at zero and at 999 a millisecond boundary. With a grant due, either
this or the grant comes, and the grant has then seen one tick end more (R1, R2, R5, R7, R77; log 2, log 3, log 4). -/
def Obligations.TickEndCountsDownAndQueuesDueEvents : Prop :=
  ∀ s : State, s.pending = [] → s.clocked → s.time.tickLength ≤ s.time.divider + 1 →
    (s.grantCondition = false → ∃ t, step s = .next t ∧ TickEndEffect s t ∧ t.grantWait = 0)
    ∧ (s.grantCondition = true → s.grantWait < Config.grantTicks →
        step s = .next s.withGrant
          ∨ ∃ t, step s = .next t ∧ TickEndEffect s t ∧ t.grantWait = s.grantWait + 1)

/-! ### Bus accesses -/

/-- Bus accesses and commands agree in both directions: every write of a value to a location is one well-formed command
whose spelling is this very write, and every well-formed command that a bus access spells is the command of that access.
No location and no value is dropped or read as another (R158, R164, R166). -/
def Obligations.BusAccessesAndCommandsAgree : Prop :=
  (∀ (loc : Loc) (v : Byte), (writeCommand loc v).wellFormed = true
    ∧ busSpelling (writeCommand loc v) = some (.write loc v)
    ∧ accessCommand (.write loc v) = some (writeCommand loc v))
    ∧ ∀ (c : Instr) (a : BusAccess), c.wellFormed = true → busSpelling c = some a → accessCommand a = some c

/-- The command that a write is, and the same write spelled as a plain REGISTER_WRITE, run alike; so do a code written
as UNKNOWN_COMMAND and the code's own command (model's choice for such spellings, log 16). -/
def Obligations.EveryWriteSpellingActsAlike : Prop :=
  ∀ (s : State) (v : Byte), (∀ loc : Loc, exec (writeCommand loc v) s = exec (.registerWrite loc v) s)
    ∧ exec (codeCommand v) s = exec (.unknownCommand v) s

/-- A read is taken at the assertion of RD# with CS# asserted and WR# released, a write at the rising edge of WR# with
CS# asserted, nothing while CS# is released, and no read while WR# is asserted. The part drives D7-D0 from a read until
RD# is released or WR# asserted. A read puts the location's contents on D7-D0, and no other change of the bus and no
command but a read changes that value: not A5-A0, not an event of another block (R157, R158; single strobes are the
model's functions of line changes, log 18). -/
def Obligations.BusStrobesTakeOneAccess : Prop :=
  (∀ before after : BusPins,
    (before.wr = true → after.wr = false → after.cs = true →
      before.accessTaken after = some (.write after.addr after.data))
    ∧ (before.wr = false → after.wr = false → before.rd = false → after.rd = true → after.cs = true →
      before.accessTaken after = some (.read after.addr))
    ∧ (after.cs = false → before.accessTaken after = none)
    ∧ (after.wr = true → before.accessTaken after = none)
    ∧ (before.wr = false → before.rd = true → before.accessTaken after = none)
    ∧ ∀ driving, (after.rd = false ∨ after.wr = true → before.drives driving after = false)
      ∧ (∀ loc, before.accessTaken after = some (.read loc) → before.drives driving after = true)
      ∧ (before.rd = true → after.rd = true → after.wr = false → before.drives driving after = driving))
    ∧ (∀ (s : State) (lines : BusPins),
      let t := { s with pins.bus := lines, window.driving := s.pins.bus.drives s.window.driving lines }
      (s.pins.bus.accessTaken lines = none → s.takeBusChange lines = .next t)
      ∧ (∀ a c, s.pins.bus.accessTaken lines = some a → accessCommand a = some c → s.takeBusChange lines = exec c t)
      ∧ (∀ loc : Loc, s.pins.bus.accessTaken lines = some (.read loc) → loc.toNat ≠ 0x20 → loc.toNat ≠ 0x29 →
        s.takeBusChange lines = .next { t with window.dataOut := s.readLocation loc }
          ∧ State.dataBus { t with window.dataOut := s.readLocation loc } = some (s.readLocation loc))
      ∧ (s.pins.bus.rd = true → s.pins.bus.wr = false → lines.rd = true → lines.wr = false →
        ∃ u, s.takeBusChange lines = .next u ∧ u.dataBus = s.dataBus))
    ∧ ∀ (c : Instr) (s t : State), c ≠ .msloRead → c ≠ .logdataRead → exec c s = .next t →
      t.dataBus = s.dataBus ∧ t.window.dataOut = s.window.dataOut ∧ t.window.driving = s.window.driving
        ∧ t.pins.bus = s.pins.bus

/-! ### Branch commands -/

/-- What CLOSE, OPEN and REARM refuse, in the order of their checks, and the OPEN of an OFF branch: RESULT alone changes
(R24, R27, R67). -/
def Obligations.BranchCommandsRefuseInOrder : Prop :=
  ∀ s : State, s.running →
    (s.window.arg0.toNat = 0 ∨ 8 < s.window.arg0.toNat →
      exec .close s = .next { s with window.result := .badArg }
        ∧ exec .openBranch s = .next { s with window.result := .badArg }
        ∧ exec .rearm s = .next { s with window.result := .badArg })
    ∧ ∀ b : Branch, s.window.arg0.toNat = b.val + 1 →
      (s.estop = true → exec .close s = .next { s with window.result := .held })
      ∧ (s.estop = false → (s.br b).state ≠ .off → exec .close s = .next { s with window.result := .wrongState })
      ∧ ((s.br b).state = .lockout → exec .openBranch s = .next { s with window.result := .wrongState })
      ∧ ((s.br b).state = .off → exec .openBranch s = .next { s with window.result := .done })
      ∧ ((s.br b).state ≠ .lockout → exec .rearm s = .next { s with window.result := .wrongState })

/-- A CLOSE taken with DONE moves the branch from OFF to QUEUED, puts it behind every entry of equal or smaller PRIORITY
and ahead of every larger one, and changes nothing else (R25, R71). -/
def Obligations.CloseJoinsTheQueueByPriority : Prop :=
  ∀ (s : State) (b : Branch) (front back : List Branch), s.running → s.window.arg0.toNat = b.val + 1 →
    s.estop = false → (s.br b).state = .off → QueueSplit s b front back →
    exec .close s = .next
      { s with
        branches := s.branches.set b { s.br b with state := .queued }
        arbiter.queue := front ++ b :: back
        window.result := .done }

/-- OPEN takes a branch to OFF from QUEUED, INRUSH, ON, DEAD and SHED: out of the queue or the stack, its slot released,
the timers of the state left cancelled, its flight ended, the attempt count 0, and nothing else changed
(R28, R29, R22, R104). -/
def Obligations.OpenTakesBranchToOff : Prop :=
  ∀ (s : State) (b : Branch), s.running → s.window.arg0.toNat = b.val + 1 →
    (∀ front back, (s.br b).state = .queued → s.arbiter.queue = front ++ b :: back → b ∉ front → b ∉ back →
      exec .openBranch s = .next
        { s with
          branches := s.branches.set b { s.br b with state := .off, attempts := 0 }
          arbiter.queue := front ++ back
          load := s.load.afterFlight b
          window.result := .done })
    ∧ ((s.br b).state = .inrush →
      exec .openBranch s = .next
        { s with
          branches := s.branches.set b { (s.br b).withoutInrushTimers with state := .off, attempts := 0 }
          arbiter.inrushCount := s.arbiter.inrushCount - 1
          load := s.load.afterFlight b
          window.result := .done })
    ∧ ((s.br b).state = .on →
      exec .openBranch s = .next
        { s with
          branches := s.branches.set b { (s.br b).withoutOnTimers with state := .off, attempts := 0 }
          window.result := .done })
    ∧ ((s.br b).state = .dead →
      exec .openBranch s = .next
        { s with
          branches := s.branches.set b { s.br b with state := .off, attempts := 0, dead := none }
          window.result := .done })
    ∧ (∀ above below, (s.br b).state = .shed → s.load.stack = above ++ b :: below → b ∉ above → b ∉ below →
      exec .openBranch s = .next
        { s with
          branches := s.branches.set b { s.br b with state := .off, attempts := 0 }
          load.stack := above ++ below
          window.result := .done })

/-- REARM of a branch in LOCKOUT takes it to OFF with attempt count 0, keeps its last trip cause and changes nothing
else, whatever the ESTOP# level (R67). -/
def Obligations.RearmLiftsTheLockout : Prop :=
  ∀ (s : State) (b : Branch), s.running → s.window.arg0.toNat = b.val + 1 → (s.br b).state = .lockout →
    exec .rearm s = .next
      { s with
        branches := s.branches.set b { s.br b with state := .off, attempts := 0 }
        window.result := .done }

/-! ### All-off, restart, reset -/

/-- ALLOFF and an assertion of ESTOP# are the same all-off with causes COMMAND and PIN; the command sets RESULT to DONE,
the pin sets the ESTOP level record. A release of ESTOP# changes that record and the pin and brings nothing back
(R111 to R114, R117). -/
def Obligations.AllOffTakesActiveBranchesToOff : Prop :=
  ∀ s : State, s.running →
    (∃ t, exec .allOff s = .next t ∧ AllOffEffect s t .command ∧ t.window = { s.window with result := .done }
      ∧ t.estop = s.estop ∧ t.pins = s.pins)
    ∧ (s.pins.estop = false →
      ∃ t, exec .estopAssertion s = .next t ∧ AllOffEffect s t .pin ∧ t.window = s.window ∧ t.estop = true
        ∧ t.pins = { s.pins with estop := true })
    ∧ (s.pins.estop = true → exec .estopRelease s = .next { s with estop := false, pins.estop := false })

/-- RESTART gives HELD while ESTOP# is asserted. Otherwise every branch is OFF with attempt count 0 and no last cause,
but for the auto-start branches, which are QUEUED; the queue holds exactly these by PRIORITY and then by number; arbiter,
load manager and digest start afresh, a RUNNING signature is ABORTED, and one RESTART record is offered (R118, R119,
R72, R143, R154). -/
def Obligations.RestartRebuildsTheQueue : Prop :=
  ∀ s : State, s.running →
    (s.estop = true → exec .restart s = .next { s with window.result := .held })
    ∧ (s.estop = false →
      ∃ t, exec .restart s = .next t
        ∧ (∀ b, t.br b =
            { (s.br b).intoOff with
              lastCause := none, state := if (s.br b).profile.autoStart then .queued else .off })
        ∧ t.arbiter.queue.Perm ((List.finRange 8).filter fun b => (s.br b).profile.autoStart)
        ∧ (t.arbiter.queue.Pairwise fun a b => s.priority a < s.priority b ∨ (s.priority a = s.priority b ∧ a < b))
        ∧ t.arbiter = { s.arbiter with queue := t.arbiter.queue, inrushCount := 0, staggerTimer := none }
        ∧ t.load = { s.load with
            mode := .calm, stack := [], inFlight := none, exhausted := false, shedTimer := none, holdTimer := none,
            spacingTimer := none }
        ∧ t.digest = Digest.default
        ∧ t.sig = (if s.sig.state = .running then { s.sig with state := .aborted, progress := none, timer := none }
            else s.sig)
        ∧ t.irq = (if s.sig.state = .running then { s.irq with pending.sign := true } else s.irq)
        ∧ t.log = s.log.take
            { kind := .restart, branch := none, cause := none, detail := t.arbiter.queue.length, phase := none }
            s.time.ms
        ∧ t.window = { s.window with result := .done }
        ∧ t.time = s.time ∧ t.pgqual = s.pgqual ∧ t.estop = s.estop ∧ t.pins = s.pins)

/-- An assertion of RESET# deasserts every ONn and releases INT#; every branch counts as OFF with its defaults and no
timer of the part runs; log, digest, pending and enable sets and window are left until the release (R9, R31, R54, R86,
R110, R121; what "no ... is taken" leaves is the model's reading, log 10). -/
def Obligations.ResetAssertionOpensEverything : Prop :=
  ∀ s : State, s.running →
    ∃ t, exec .resetAssertion s = .next t ∧ t.pins = { s.pins with reset := true }
      ∧ (∀ b, t.onOut b = false) ∧ t.intOut = false
      ∧ (∀ b, t.br b =
          { BranchRec.default with
            scLevel := (s.br b).scLevel, ocLevel := (s.br b).ocLevel, pgLevel := (s.br b).pgLevel })
      ∧ t.time = Timebase.default ∧ t.arbiter = Arbiter.default
      ∧ t.load = { LoadManager.default with supovl := s.load.supovl, buslo := s.load.buslo }
      ∧ t.pgqual = 5 ∧ t.sig = { s.sig with timer := none }
      ∧ t.log = s.log ∧ t.digest = s.digest ∧ t.irq = s.irq ∧ t.window = s.window ∧ t.estop = s.estop
      ∧ ∀ loc, t.readLocation loc = 0

/-- While RESET# stays asserted the part takes no event: an event of an input changes the level of its own pin and nothing
else, every location reads 00h, a read command returns 00h, and every other command but the release (a bus write, an
expiry, a millisecond boundary, a grant) changes nothing at all (R54, R110, R121, R157, R158). -/
def Obligations.HeldResetTakesNoEvent : Prop :=
  ∀ s : State, s.pins.reset = true →
    (∀ loc, s.readLocation loc = 0)
    ∧ ∀ c : Instr, c ≠ .hardwareReset →
      exec c s = .next
        { s with
          pins := s.pins.afterEvent c
          window.dataOut := if c = .msloRead ∨ c = .logdataRead then 0 else s.window.dataOut }

/-- At the release of RESET# every block takes its hardware reset values, the level records take the pins, and a raw
stress found present starts the qualify timer for 2 ms; with RESET# released before, the command stands for a whole pulse
(log 11), and D7-D0 are driven as before (R157) with the value last read kept (log 20) (R122, R9, R31, R54, R86, R110,
R123, R139, R143, R149, R156, R170). -/
def Obligations.HardwareResetTakesThePins : Prop :=
  ∀ s : State, ∃ t, exec .hardwareReset s = .next t
    ∧ t.pins = { s.pins with reset := false }
    ∧ (∀ b : Branch, t.br b =
        { BranchRec.default with scLevel := s.pins.sc[b], ocLevel := s.pins.oc[b], pgLevel := s.pins.pg[b] })
    ∧ t.load =
        { LoadManager.default with
          supovl := s.pins.supovl, buslo := s.pins.buslo,
          qualifyTimer := if s.pins.supovl = true ∨ s.pins.buslo = true then some 2000 else none }
    ∧ t.estop = s.pins.estop ∧ t.time = Timebase.default ∧ t.arbiter = Arbiter.default ∧ t.pgqual = 5
    ∧ t.log = EventLog.default ∧ t.digest = Digest.default ∧ t.irq = Interrupts.default ∧ t.sig = Signature.default
    ∧ t.window = { Window.default with dataOut := s.window.dataOut, driving := s.window.driving }
    ∧ (∀ b, t.onOut b = false) ∧ t.intOut = false

/-! ### Event log -/

/-- An offer to a log of fewer than sixteen records is stored behind them with the counter's sequence, the offered
fields, the timestamp and a gap if records were lost; an offer to a full log is discarded and counted up to 255
(R126, R128, R129, R130). -/
def Obligations.LogTakesOffersInOrder : Prop :=
  ∀ (l : EventLog) (o : Offer) (now : Half),
    (l.records.length < 16 →
      l.take o now =
        { records := l.records ++
            [{ seq := l.seq, kind := o.kind, branch := o.branch, cause := o.cause, detail := o.detail, phase := o.phase,
               time := now, gap := if l.lost = 0 then none else some l.lost }],
          seq := l.seq + 1, lost := 0, idx := if l.records = [] then 0 else l.idx, thr := l.thr })
    ∧ (16 ≤ l.records.length →
      l.take o now = { l with lost := BitVec.ofNat 8 (min 255 (l.lost.toNat + 1)) })

/-- LOGADV on an empty log gives WRONG_STATE and changes nothing else; with records held it removes the head and sets
LOGIDX to 0. LOGCLR empties the log and sets the pending-lost counter and LOGIDX to 0, in every case with DONE
(R134, R135). -/
def Obligations.LogCommandsRemoveRecords : Prop :=
  ∀ s : State, s.running →
    (s.log.records = [] → exec .logAdv s = .next { s with window.result := .wrongState })
    ∧ (∀ head rest, s.log.records = head :: rest →
      exec .logAdv s = .next { s with log.records := rest, log.idx := 0, window.result := .done })
    ∧ exec .logClr s = .next { s with log.records := [], log.lost := 0, log.idx := 0, window.result := .done }

/-- A read of LOGDATA returns the byte of the head frame at LOGIDX, 0 from an empty log, and advances LOGIDX from 8 to 0;
nothing else changes. The nine bytes are the fields in the order of R169, absent ones as 0 (R132, R169). -/
def Obligations.LogdataReadReturnsTheHeadFrame : Prop :=
  ∀ s : State, s.running →
    (∃ d, exec .logdataRead s =
        .next { s with window.dataOut := d, log.idx := if s.log.idx = 8 then 0 else s.log.idx + 1 }
      ∧ (s.log.records = [] → d = 0)
      ∧ ∀ r rest, s.log.records = r :: rest →
        (s.log.idx = 0 → d = r.seq) ∧ (s.log.idx = 1 → d.toNat = r.kind.code)
        ∧ (s.log.idx = 2 → d.toNat = branchCode r.branch)
        ∧ (s.log.idx = 3 → d.toNat = r.cause.elim 0 RecordCause.code)
        ∧ (s.log.idx = 4 → d.toNat = r.detail % 256) ∧ (s.log.idx = 5 → d.toNat = r.phase.elim 0 Phase.code)
        ∧ (s.log.idx = 6 → d.toNat = r.time.toNat % 256) ∧ (s.log.idx = 7 → d.toNat = r.time.toNat / 256)
        ∧ (s.log.idx = 8 → d = r.gap.getD 0))

/-! ### Digest, interrupts, outputs -/

/-- DIGESTCLR empties the trip set and makes the first-tripped branch absent, always with DONE; a write to CMD of a value
that is no command code sets RESULT to UNKNOWN. Neither changes anything else (R142, R164). -/
def Obligations.DigestClrAndUnknownCode : Prop :=
  ∀ s : State, s.running →
    exec .digestClr s =
        .next { s with digest.trips := Vector.replicate 8 false, digest.first := none, window.result := .done }
    ∧ ∀ code : Byte,
        code.toNat ∉ [0x01, 0x02, 0x03, 0x10, 0x11, 0x20, 0x30, 0x31, 0x32] →
        exec (.unknownCommand code) s = .next { s with window.result := .unknown }

/-- The digest code is 0 for an empty trip set, the branch number for one member and 15 for more; DIGEST packs it below
the first-tripped branch, and TRIPSET has bit n - 1 for branch n (R141, R167). -/
def Obligations.DigestCodeNamesTheTrippedBranches : Prop :=
  ∀ s : State, s.running →
    ((∀ b : Branch, s.digest.trips[b] = false) → s.digest.code = 0)
    ∧ (∀ b : Branch, (∀ c : Branch, s.digest.trips[c] = true ↔ c = b) → s.digest.code = b.val + 1)
    ∧ (∀ b c : Branch, b ≠ c → s.digest.trips[b] = true → s.digest.trips[c] = true → s.digest.code = 15)
    ∧ (s.readLocation 0x22).toNat = s.digest.code + 16 * (s.digest.first.elim 0 fun b => b.val + 1)
    ∧ ∀ b : Branch, (s.readLocation 0x23).getLsbD b.val = s.digest.trips[b]

/-- INT# is asserted exactly while some source is both active and enabled and RESET# is released; ONn exactly in INRUSH
and ON with RESET# released. IRQPEND reads the active sources and IRQEN the enabled ones; BPINS reads the level records,
ONn and the in-flight flag of the branch that BPTR names (R18, R19, R21, R121, R145, R147, R148, R167). -/
def Obligations.OutputsFollowTheState : Prop :=
  ∀ s : State,
    (s.intOut = true ↔ s.pins.reset = false
      ∧ ((s.log.thr.toNat ≤ s.log.records.length ∧ s.irq.enable.log = true)
        ∨ (s.irq.pending.trip = true ∧ s.irq.enable.trip = true)
        ∨ (s.irq.pending.lock = true ∧ s.irq.enable.lock = true)
        ∨ (s.irq.pending.shedLoss = true ∧ s.irq.enable.shedLoss = true)
        ∨ (s.irq.pending.stress = true ∧ s.irq.enable.stress = true)
        ∨ (s.irq.pending.sign = true ∧ s.irq.enable.sign = true)))
    ∧ (∀ b, s.onOut b = true ↔ s.pins.reset = false ∧ ((s.br b).state = .inrush ∨ (s.br b).state = .on))
    ∧ (s.running →
      let b := s.window.bptr
      let p := s.irq.pending
      let e := s.irq.enable
      (s.readLocation 0x0E).toNat =
          (s.br b).scLevel.toNat + 2 * (s.br b).ocLevel.toNat + 4 * (s.br b).pgLevel.toNat + 8 * (s.onOut b).toNat
            + 16 * (if s.load.inFlight = some b then 1 else 0)
        ∧ (s.readLocation 0x27).toNat =
          (if s.log.thr.toNat ≤ s.log.records.length then 1 else 0) + 2 * p.trip.toNat + 4 * p.lock.toNat
            + 8 * p.shedLoss.toNat + 16 * p.stress.toNat + 32 * p.sign.toNat
        ∧ (s.readLocation 0x28).toNat =
          e.log.toNat + 2 * e.trip.toNat + 4 * e.lock.toNat + 8 * e.shedLoss.toNat + 16 * e.stress.toNat
            + 32 * e.sign.toNat)

/-- An acknowledge that names only sources removes exactly the named latched sources; a write to IRQEN that names only
sources makes the enable set exactly those. Any other value is refused with RANGE and changes only WSTAT
(R146, R147, R168). -/
def Obligations.InterruptWritesNameSources : Prop :=
  ∀ (s : State) (v : Byte), s.running →
    (64 ≤ v.toNat →
      exec (.irqpendAcknowledge v) s = .next { s with window.wstat := .range }
        ∧ exec (.irqenWrite v) s = .next { s with window.wstat := .range })
    ∧ (v.toNat < 64 →
      exec (.irqpendAcknowledge v) s = .next
        { s with
          irq.pending :=
            { trip := s.irq.pending.trip && !v.getLsbD 1, lock := s.irq.pending.lock && !v.getLsbD 2,
              shedLoss := s.irq.pending.shedLoss && !v.getLsbD 3, stress := s.irq.pending.stress && !v.getLsbD 4,
              sign := s.irq.pending.sign && !v.getLsbD 5 }
          window.wstat := .ok }
      ∧ ∃ e : EnableSet, exec (.irqenWrite v) s = .next { s with irq.enable := e, window.wstat := .ok }
        ∧ e.read = v)

/-! ### Window writes and reads -/

/-- A read of MSLO returns the low byte of the counter, puts the high byte into the MSHI hold and changes nothing else;
MSHI reads the hold; a write to either location gives READONLY; no other command but a RESET# event changes the hold,
so it is kept at engine restart and all-off; it is 00h after reset (R6). -/
def Obligations.MsloReadHoldsTheHighByte : Prop :=
  (∀ s : State, s.running →
    ∃ lo hi : Byte, exec .msloRead s = .next { s with window.dataOut := lo, time.mshi := hi }
      ∧ lo.toNat = s.time.ms.toNat % 256 ∧ hi.toNat = s.time.ms.toNat / 256
      ∧ s.readLocation 0x29 = lo ∧ s.readLocation 0x2A = s.time.mshi
      ∧ ∀ v : Byte, exec (.registerWrite 0x29 v) s = .next { s with window.wstat := .readonly }
        ∧ exec (.registerWrite 0x2A v) s = .next { s with window.wstat := .readonly })
    ∧ (∀ (c : Instr) (s t : State), c ≠ .msloRead → c ≠ .resetAssertion → c ≠ .hardwareReset → exec c s = .next t →
      t.time.mshi = s.time.mshi)
    ∧ State.reset.time.mshi = 0

/-- A profile write reaches the branch that BPTR names: LOCKED outside OFF whatever the value, RANGE in OFF out of range,
else the field takes the value, reads it back, the other fields keep theirs, and a RUNNING signature whose range holds
the branch ends STALE. In every state 04h to 0Bh read the eight fields of that branch, OPTIONS its escalation flag in bit
0 and its auto-start flag in bit 1 (R10, R11, R12, R13, R153, R167). -/
def Obligations.ProfileWriteStoresOnlyInOff : Prop :=
  ∀ (s : State) (f : ProfileField) (v : Byte), s.running →
    let b := s.window.bptr
    let legal := match f with
      | .priority | .budget => v.toNat ≤ 7
      | .options => v.toNat ≤ 3
      | .ocqual => True
      | .deadbase | .blank | .rise | .settle => v.toNat ≠ 0
    ((s.br b).state ≠ .off → exec (.profileWrite f v) s = .next { s with window.wstat := .locked })
    ∧ ((s.br b).state = .off → ¬legal → exec (.profileWrite f v) s = .next { s with window.wstat := .range })
    ∧ ((s.br b).state = .off → legal →
      ∃ p : Profile, p.fetch f = v ∧ (∀ g, g ≠ f → p.fetch g = (s.br b).profile.fetch g)
        ∧ exec (.profileWrite f v) s = .next
          (if s.sig.state = .running ∧ s.sig.first ≤ b ∧ b ≤ s.sig.last then
            { s with
              branches := s.branches.set b { s.br b with profile := p }
              sig := { s.sig with state := .stale, progress := none, timer := none }
              irq.pending.sign := true
              window.wstat := .ok }
          else { s with branches := s.branches.set b { s.br b with profile := p }, window.wstat := .ok }))
    ∧ (let p := (s.br b).profile
      s.readLocation 0x04 = p.priority ∧ s.readLocation 0x05 = p.budget ∧ s.readLocation 0x06 = p.deadbase
        ∧ (s.readLocation 0x07).toNat = p.escalation.toNat + 2 * p.autoStart.toNat
        ∧ s.readLocation 0x08 = p.ocqual ∧ s.readLocation 0x09 = p.blank ∧ s.readLocation 0x0A = p.rise
        ∧ s.readLocation 0x0B = p.settle ∧ ∀ g, s.readLocation (profileLocation g) = p.fetch g)

/-- PRESCALE and SLOTS: RANGE first, then ACTIVE while some branch is in QUEUED, INRUSH, ON, DEAD or SHED, then OK; a
PRESCALE taken leaves the tick in progress and every count as they are. 10h and 11h read them (R4, R5, R76). -/
def Obligations.PrescaleAndSlotsNeedEveryBranchIdle : Prop :=
  ∀ (s : State) (v : Byte), s.running →
    let quiet := ∀ b, (s.br b).state = .off ∨ (s.br b).state = .lockout
    (¬(1 ≤ v.toNat ∧ v.toNat ≤ 32) → exec (.prescaleWrite v) s = .next { s with window.wstat := .range })
    ∧ (1 ≤ v.toNat ∧ v.toNat ≤ 32 → ¬quiet → exec (.prescaleWrite v) s = .next { s with window.wstat := .active })
    ∧ (1 ≤ v.toNat ∧ v.toNat ≤ 32 → quiet →
      exec (.prescaleWrite v) s = .next { s with time.prescale := v, window.wstat := .ok })
    ∧ (¬(1 ≤ v.toNat ∧ v.toNat ≤ 3) → exec (.slotsWrite v) s = .next { s with window.wstat := .range })
    ∧ (1 ≤ v.toNat ∧ v.toNat ≤ 3 → ¬quiet → exec (.slotsWrite v) s = .next { s with window.wstat := .active })
    ∧ (1 ≤ v.toNat ∧ v.toNat ≤ 3 → quiet →
      exec (.slotsWrite v) s = .next { s with arbiter.slots := v, window.wstat := .ok })
    ∧ s.readLocation 0x10 = s.time.prescale ∧ s.readLocation 0x11 = s.arbiter.slots

/-- LOGTHR takes 1 to 16 with OK, refuses any other value with RANGE, reads back, and moves no record; the log condition
is the comparison of the record count with it (R137, R138). -/
def Obligations.LogthrWriteMovesTheCondition : Prop :=
  ∀ (s : State) (v : Byte), s.running →
    (1 ≤ v.toNat → v.toNat ≤ 16 →
      ∃ t, exec (.logthrWrite v) s = .next t ∧ t = { s with log.thr := v, window.wstat := .ok }
        ∧ t.readLocation 0x18 = v ∧ (t.log.condition = true ↔ v.toNat ≤ s.log.records.length))
    ∧ (v.toNat = 0 ∨ 16 < v.toNat → exec (.logthrWrite v) s = .next { s with window.wstat := .range })

/-- STAGGER and STRESSQUAL take every value; PGQUAL, SHEDIVL, HOLD and RSPACE take 1 to 255 and refuse 0 with RANGE. No
running timer is touched, and each location reads back (R53, R81, R109). -/
def Obligations.GlobalSettingWrites : Prop :=
  ∀ (s : State) (v : Byte), s.running →
    exec (.registerWrite 0x12 v) s = .next { s with arbiter.stagger := v, window.wstat := .ok }
    ∧ exec (.registerWrite 0x14 v) s = .next { s with load.stressqual := v, window.wstat := .ok }
    ∧ (v.toNat ≠ 0 →
      exec (.registerWrite 0x13 v) s = .next { s with pgqual := v, window.wstat := .ok }
      ∧ exec (.registerWrite 0x15 v) s = .next { s with load.shedivl := v, window.wstat := .ok }
      ∧ exec (.registerWrite 0x16 v) s = .next { s with load.holdTime := v, window.wstat := .ok }
      ∧ exec (.registerWrite 0x17 v) s = .next { s with load.rspace := v, window.wstat := .ok })
    ∧ (∀ loc ∈ ([0x13, 0x15, 0x16, 0x17] : List Loc),
      exec (.registerWrite loc 0) s = .next { s with window.wstat := .range })
    ∧ s.readLocation 0x12 = s.arbiter.stagger ∧ s.readLocation 0x13 = s.pgqual
    ∧ s.readLocation 0x14 = s.load.stressqual ∧ s.readLocation 0x15 = s.load.shedivl
    ∧ s.readLocation 0x16 = s.load.holdTime ∧ s.readLocation 0x17 = s.load.rspace

/-- A write to a read-only or unimplemented location has no effect but WSTAT READONLY, which 0Fh then reads; a read of
2Bh to 3Fh returns 00h; a write to 00h or 27h never gives READONLY of its own (R160). -/
def Obligations.ReadOnlyLocationsRefuseWrites : Prop :=
  ∀ (s : State) (v : Byte), s.running →
    (∀ loc : Loc,
      loc.toNat ∈ [0x0C, 0x0D, 0x0E, 0x0F, 0x19, 0x1A, 0x1B, 0x1D, 0x1E, 0x1F, 0x20, 0x22, 0x23, 0x24, 0x25, 0x26, 0x29,
        0x2A] ∨ 0x2B ≤ loc.toNat →
      ∃ t, exec (.registerWrite loc v) s = .next t ∧ t = { s with window.wstat := .readonly }
        ∧ t.readLocation 0x0F = 4)
    ∧ (∀ loc : Loc, 0x2B ≤ loc.toNat → s.readLocation loc = 0)
    ∧ (∃ t, exec (codeCommand v) s = .next t ∧ t.window.wstat = s.window.wstat)
    ∧ (∃ t, exec (.irqpendAcknowledge v) s = .next t ∧ t.window.wstat ≠ .readonly)

/-- ARG0 and ARG1 take every value; BPTR 1 to 8, VIEWSEL 00h-07h and 10h-13h, LOGIDX 0 to 8 take theirs with OK and
refuse any other with RANGE; each reads back. RESULT, WSTAT and the status locations of branch, load manager, queue, stack,
log and signature engine read their items in the bits and codes of section 11.6 (R15 to R17, R84, R107, R108, R131, R133,
R155, R161 to R163, R165 to R167). -/
def Obligations.PointerWritesAndStatusReads : Prop :=
  ∀ (s : State) (v : Byte), s.running →
    exec (.registerWrite 0x01 v) s = .next { s with window.arg0 := v, window.wstat := .ok }
    ∧ exec (.registerWrite 0x02 v) s = .next { s with window.arg1 := v, window.wstat := .ok }
    ∧ (∀ b : Branch, v.toNat = b.val + 1 →
      exec (.registerWrite 0x03 v) s = .next { s with window.bptr := b, window.wstat := .ok })
    ∧ (v.toNat = 0 ∨ 8 < v.toNat → exec (.registerWrite 0x03 v) s = .next { s with window.wstat := .range })
    ∧ (∀ k : Fin 8, v.toNat = k.val →
      exec (.registerWrite 0x1C v) s = .next { s with window.viewsel := .queue k, window.wstat := .ok })
    ∧ (∀ k : Fin 4, v.toNat = 16 + k.val →
      exec (.registerWrite 0x1C v) s = .next { s with window.viewsel := .stack k, window.wstat := .ok })
    ∧ ((7 < v.toNat ∧ v.toNat < 16) ∨ 19 < v.toNat →
      exec (.registerWrite 0x1C v) s = .next { s with window.wstat := .range })
    ∧ (∀ k : Fin 9, v.toNat = k.val →
      exec (.registerWrite 0x21 v) s = .next { s with log.idx := k, window.wstat := .ok })
    ∧ (8 < v.toNat → exec (.registerWrite 0x21 v) s = .next { s with window.wstat := .range })
    ∧ s.readLocation 0x01 = s.window.arg0 ∧ s.readLocation 0x02 = s.window.arg1
    ∧ (s.readLocation 0x03).toNat = s.window.bptr.val + 1 ∧ (s.readLocation 0x21).toNat = s.log.idx.val
    ∧ (∀ k, s.window.viewsel = .queue k →
      (s.readLocation 0x1C).toNat = k.val
        ∧ (s.readLocation 0x1D).toNat = (s.arbiter.queue[k.val]?).elim 0 fun b => b.val + 1)
    ∧ (∀ k, s.window.viewsel = .stack k →
      (s.readLocation 0x1C).toNat = 16 + k.val
        ∧ (s.readLocation 0x1D).toNat = (s.load.stack[k.val]?).elim 0 fun b => b.val + 1)
    ∧ (s.readLocation 0x00).toNat =
        (match s.window.result with
          | .none => 0 | .done => 1 | .wrongState => 2 | .badArg => 3 | .busy => 4 | .held => 5 | .unknown => 6)
    ∧ (s.readLocation 0x0F).toNat =
        (match s.window.wstat with | .ok => 0 | .locked => 1 | .range => 2 | .active => 3 | .readonly => 4)
    ∧ (let r := s.br s.window.bptr
      (r.attempts ≤ 7 →
        (s.readLocation 0x0C).toNat =
          (match r.state with
            | .off => 0 | .queued => 1 | .inrush => 2 | .on => 3 | .dead => 4 | .lockout => 5 | .shed => 6)
            + 16 * r.attempts)
        ∧ (s.readLocation 0x0D).toNat =
          (match r.lastCause with
            | none => 0 | some .sc => 1 | some .oc => 2 | some .norise => 3 | some .pgloss => 4))
    ∧ (s.readLocation 0x19).toNat =
        (match s.load.mode with | .calm => 0 | .shedding => 1 | .hold => 2 | .restoring => 3)
          + 4 * s.load.qualified.toNat + 8 * s.load.supovl.toNat + 16 * s.load.buslo.toNat + 32 * s.estop.toNat
          + 64 * s.load.exhausted.toNat
    ∧ (s.arbiter.queue.length ≤ 8 → s.arbiter.inrushCount ≤ 3 →
      (s.readLocation 0x1A).toNat = s.arbiter.queue.length + 16 * s.arbiter.inrushCount)
    ∧ (s.load.stack.length ≤ 4 →
      (s.readLocation 0x1B).toNat = s.load.stack.length + 16 * (s.load.inFlight.elim 0 fun b => b.val + 1))
    ∧ (s.log.records.length ≤ 16 → (s.readLocation 0x1E).toNat = s.log.records.length)
    ∧ s.readLocation 0x1F = s.log.lost
    ∧ (s.readLocation 0x24).toNat =
        (match s.sig.state with | .idle => 0 | .running => 1 | .done => 2 | .stale => 3 | .aborted => 4)
          + 16 * (s.sig.progress.elim 0 fun b => b.val + 1)
    ∧ (s.readLocation 0x25).toNat = s.sig.crc.toNat % 256 ∧ (s.readLocation 0x26).toNat = s.sig.crc.toNat / 256

/-! ### Trip detection -/

/-- An assertion of SCn# trips a branch in INRUSH or ON at once, and elsewhere changes the level record alone; a release
changes the level record alone in every state (R32, R33, R35, R38, R55 to R57). -/
def Obligations.ScAssertionTripsAtOnce : Prop :=
  ∀ (s : State) (n : Branch), s.running →
    (s.pins.sc[n] = false →
      let u := { s with branches := s.branches.set n { s.br n with scLevel := true }, pins.sc := s.pins.sc.set n true }
      ((s.br n).state = .inrush → ∃ t, exec (.scAssertion n) s = .next t ∧ TripEffect u t n .sc .inrush)
      ∧ ((s.br n).state = .on → ∃ t, exec (.scAssertion n) s = .next t ∧ TripEffect u t n .sc .on)
      ∧ ((s.br n).state ≠ .inrush → (s.br n).state ≠ .on → exec (.scAssertion n) s = .next u))
    ∧ (s.pins.sc[n] = true →
      exec (.scRelease n) s = .next
        { s with branches := s.branches.set n { s.br n with scLevel := false }, pins.sc := s.pins.sc.set n false })

/-- An assertion of OCn# in ON starts the OC qualify timer for OCQUAL x 4 us, or with OCQUAL 0 trips at once; elsewhere it
changes the level record alone. A release records the level and cancels the timer (R33, R48, R49). -/
def Obligations.OcAssertionQualifiesInOn : Prop :=
  ∀ (s : State) (n : Branch), s.running →
    (s.pins.oc[n] = false →
      let r := { s.br n with ocLevel := true }
      let u := { s with branches := s.branches.set n r, pins.oc := s.pins.oc.set n true }
      ((s.br n).state = .on → (s.br n).profile.ocqual ≠ 0 →
        exec (.ocAssertion n) s = .next
          { u with branches := s.branches.set n { r with ocQualify := some ((s.br n).profile.ocqual.toNat * 4) } })
      ∧ ((s.br n).state = .on → (s.br n).profile.ocqual = 0 →
        ∃ t, exec (.ocAssertion n) s = .next t ∧ TripEffect u t n .oc .on)
      ∧ ((s.br n).state ≠ .on → exec (.ocAssertion n) s = .next u))
    ∧ (s.pins.oc[n] = true →
      exec (.ocRelease n) s = .next
        { s with
          branches := s.branches.set n { s.br n with ocLevel := false, ocQualify := none }
          pins.oc := s.pins.oc.set n false })

/-- An assertion of PGn completes the close in INRUSH with blanking done, cancels the PG-loss timer in ON, and elsewhere
(in INRUSH with blanking running too) changes the level record alone. A release starts the PG-loss timer for
PGQUAL x 1 ms in ON and changes the level record alone elsewhere (R42, R43, R50). -/
def Obligations.PgEventsCompleteAndQualify : Prop :=
  ∀ (s : State) (n : Branch), s.running →
    (s.pins.pg[n] = false →
      let r := { s.br n with pgLevel := true }
      let u := { s with branches := s.branches.set n r, pins.pg := s.pins.pg.set n true }
      ((s.br n).state = .inrush → (s.br n).blanking = none →
        ∃ t, exec (.pgAssertion n) s = .next t ∧ CompletionEffect u t n)
      ∧ ((s.br n).state = .inrush → (s.br n).blanking ≠ none → exec (.pgAssertion n) s = .next u)
      ∧ ((s.br n).state = .on →
        exec (.pgAssertion n) s = .next { u with branches := s.branches.set n { r with pgLoss := none } })
      ∧ ((s.br n).state ≠ .inrush → (s.br n).state ≠ .on → exec (.pgAssertion n) s = .next u))
    ∧ (s.pins.pg[n] = true →
      let r := { s.br n with pgLevel := false }
      let u := { s with branches := s.branches.set n r, pins.pg := s.pins.pg.set n false }
      ((s.br n).state = .on →
        exec (.pgRelease n) s = .next
          { u with branches := s.branches.set n { r with pgLoss := some (s.pgqual.toNat * 1000) } })
      ∧ ((s.br n).state ≠ .on → exec (.pgRelease n) s = .next u))

/-- The expiry of the OC qualify timer in ON trips with cause OC, of the PG-loss timer in ON with PGLOSS, of the rise
timer in INRUSH with PGn released with NORISE (R44, R49, R51, R55 to R57). An expiry command is taken whatever ticks its
timer has left (model's choice, log 5). -/
def Obligations.QualifyExpiriesTrip : Prop :=
  ∀ (s : State) (n : Branch), s.clocked →
    ((s.br n).state = .on → (s.br n).ocQualify ≠ none →
      ∃ t, exec (.ocQualifyExpiry n) s = .next t ∧ TripEffect s t n .oc .on)
    ∧ ((s.br n).state = .on → (s.br n).pgLoss ≠ none →
      ∃ t, exec (.pgLossExpiry n) s = .next t ∧ TripEffect s t n .pgloss .on)
    ∧ ((s.br n).state = .inrush → (s.br n).rise ≠ none → (s.br n).pgLevel = false →
      ∃ t, exec (.riseExpiry n) s = .next t ∧ TripEffect s t n .norise .inrush)

/-- The blanking expiry of a branch in INRUSH completes the close if PGn is asserted, and otherwise leaves it in INRUSH
with blanking done; a rise expiry that finds PGn asserted has no effect but that the timer no longer runs (R41, R44, R45,
R47). An expiry command is taken whatever ticks its timer has left (model's choice, log 5). -/
def Obligations.BlankingExpiryCompletesWithPowerGood : Prop :=
  ∀ (s : State) (n : Branch), s.clocked → (s.br n).state = .inrush →
    ((s.br n).blanking ≠ none → (s.br n).pgLevel = true →
      ∃ t, exec (.blankingExpiry n) s = .next t ∧ CompletionEffect s t n)
    ∧ ((s.br n).blanking ≠ none → (s.br n).pgLevel = false →
      ∃ t, exec (.blankingExpiry n) s = .next t
        ∧ t = { s with branches := s.branches.set n { s.br n with blanking := none } }
        ∧ (t.br n).blankingDone = true ∧ t.onOut n = true)
    ∧ ((s.br n).rise ≠ none → (s.br n).pgLevel = true →
      exec (.riseExpiry n) s = .next { s with branches := s.branches.set n { s.br n with rise := none } })

/-- An expiry of a timer that is not running does not take place: nothing changes (R8, log 6). -/
def Obligations.ExpiryOfStoppedTimerDoesNothing : Prop :=
  ∀ s : State,
    (∀ n, ((s.br n).ocQualify = none → exec (.ocQualifyExpiry n) s = .next s)
      ∧ ((s.br n).pgLoss = none → exec (.pgLossExpiry n) s = .next s)
      ∧ ((s.br n).blanking = none → exec (.blankingExpiry n) s = .next s)
      ∧ ((s.br n).rise = none → exec (.riseExpiry n) s = .next s)
      ∧ ((s.br n).dead = none → exec (.deadExpiry n) s = .next s)
      ∧ ((s.br n).settle = none → exec (.settleExpiry n) s = .next s))
    ∧ (s.arbiter.staggerTimer = none → exec .staggerExpiry s = .next s)
    ∧ (s.load.qualifyTimer = none → exec .stressQualifyExpiry s = .next s)
    ∧ (s.load.shedTimer = none → exec .shedIntervalExpiry s = .next s)
    ∧ (s.load.holdTimer = none → exec .holdExpiry s = .next s)
    ∧ (s.load.spacingTimer = none → exec .restoreSpacingExpiry s = .next s)
    ∧ (s.sig.timer = none → exec .signatureRecordExpiry s = .next s)

/-! ### Reclose, queue and grant -/

/-- The dead expiry of a branch in DEAD puts it into the close queue at its priority position with its attempt count
kept, and changes nothing else (R61, R71). The expiry command is taken whatever ticks the timer has left (model's choice,
log 5). -/
def Obligations.DeadExpiryRequestsTheReclose : Prop :=
  ∀ (s : State) (n : Branch) (front back : List Branch), s.clocked → (s.br n).state = .dead → (s.br n).dead ≠ none →
    QueueSplit s n front back →
    exec (.deadExpiry n) s = .next
      { s with
        branches := s.branches.set n { s.br n with state := .queued, dead := none }
        arbiter.queue := front ++ n :: back }

/-- The settle expiry of a branch in ON returns its attempt count to 0; the stagger expiry leaves the stagger timer not
running; a millisecond boundary returns the sub-millisecond count to 0 and raises the counter, from 65535 to 0. None
changes anything else (R2, R64, R80). An expiry command is taken whatever ticks its timer has left, a boundary command
whatever the sub-millisecond count (model's choice, log 5). -/
def Obligations.QuietTimeEvents : Prop :=
  ∀ s : State, s.clocked →
    (∀ n, (s.br n).state = .on → (s.br n).settle ≠ none →
      exec (.settleExpiry n) s = .next
        { s with branches := s.branches.set n { s.br n with settle := none, attempts := 0 } })
    ∧ (s.arbiter.staggerTimer ≠ none → exec .staggerExpiry s = .next { s with arbiter.staggerTimer := none })
    ∧ ∃ m : Half, exec .millisecondBoundary s = .next { s with time.subMs := 0, time.ms := m }
      ∧ m.toNat = (s.time.ms.toNat + 1) % 65536

/-- A grant takes the head of the queue to INRUSH with the blanking and rise timers started, raises the inrush count and
starts the stagger timer for STAGGER x 1 ms unless STAGGER is 0 (R40, R77, R78, R79); where the grant condition does not
hold, the command changes nothing (read from R77, log 6). -/
def Obligations.GrantClosesTheQueueHead : Prop :=
  ∀ s : State, s.clocked →
    (∀ b rest, s.arbiter.queue = b :: rest → s.arbiter.inrushCount < s.arbiter.slots.toNat →
      s.arbiter.staggerTimer = none → s.load.qualified = false → (s.br b).state = .queued →
      (s.br b).scLevel = false →
      exec .grant s = .next
        { s with
          branches := s.branches.set b
            { s.br b with
              state := .inrush, blanking := some ((s.br b).profile.blank.toNat * 1000),
              rise := some ((s.br b).profile.rise.toNat * 1000) }
          arbiter.queue := rest
          arbiter.inrushCount := s.arbiter.inrushCount + 1
          arbiter.staggerTimer := if s.arbiter.stagger = 0 then none else some (s.arbiter.stagger.toNat * 1000) })
    ∧ (s.arbiter.queue = [] ∨ s.arbiter.slots.toNat ≤ s.arbiter.inrushCount ∨ s.arbiter.staggerTimer ≠ none
        ∨ s.load.qualified = true → exec .grant s = .next s)

/-- A grant that finds SCn# of the queue head asserted trips it with phase INRUSH in the same event: ONn is not asserted,
the inrush count is as before, and the stagger timer starts all the same (R36, R55 to R57, R59, R74, R78). -/
def Obligations.GrantOntoShortTripsWithoutPulse : Prop :=
  ∀ (s : State) (b : Branch) (rest : List Branch), s.clocked → s.arbiter.queue = b :: rest →
    s.arbiter.inrushCount < s.arbiter.slots.toNat → s.arbiter.staggerTimer = none → s.load.qualified = false →
    (s.br b).state = .queued → (s.br b).scLevel = true →
    ∃ t, exec .grant s = .next t
      ∧ TripEffect
          { s with
            branches := s.branches.set b { s.br b with state := .inrush }
            arbiter.queue := rest
            arbiter.inrushCount := s.arbiter.inrushCount + 1
            arbiter.staggerTimer := if s.arbiter.stagger = 0 then none else some (s.arbiter.stagger.toNat * 1000) }
          t b .sc .inrush
      ∧ t.onOut b = false ∧ t.arbiter.inrushCount = s.arbiter.inrushCount

/-- No command asserts an ONn that was deasserted but a grant taken with its condition, with CLKIN running, for the branch
at the head of the queue: no reset, release, restore, restart or bus write does (R21, R77, R78). -/
def Obligations.OnlyAGrantAssertsASwitchEnable : Prop :=
  ∀ (c : Instr) (s t : State) (b : Branch), exec c s = .next t → s.onOut b = false → t.onOut b = true →
    c = .grant ∧ s.clocked ∧ s.grantCondition = true ∧ s.arbiter.queue.head? = some b

/-! ### Load manager -/

/-- An assertion of a stress input while the other is released is a rise of raw stress: it starts the qualify timer for
STRESSQUAL x 1 ms, or with STRESSQUAL 0 raises qualified stress, with its shed step and recall; while the other is asserted
it changes the level record alone (R87, R88, R89, R91, R97 to R100, R105; a rise in SHEDDING, which cannot be taken,
log 17). -/
def Obligations.StressAssertionQualifies : Prop :=
  ∀ (s : State), s.running →
    (s.pins.supovl = false →
      let u := { s with load.supovl := true, pins.supovl := true }
      (s.load.buslo = true → exec (.stressInputAssertion .supovl) s = .next u)
      ∧ (s.load.buslo = false → s.load.stressqual ≠ 0 →
        exec (.stressInputAssertion .supovl) s =
          .next { u with load.qualifyTimer := some (s.load.stressqual.toNat * 1000) })
      ∧ (s.load.buslo = false → s.load.stressqual = 0 →
        ∃ t, exec (.stressInputAssertion .supovl) s = .next t ∧ RiseEffect u t))
    ∧ (s.pins.buslo = false →
      let u := { s with load.buslo := true, pins.buslo := true }
      (s.load.supovl = true → exec (.stressInputAssertion .buslo) s = .next u)
      ∧ (s.load.supovl = false → s.load.stressqual ≠ 0 →
        exec (.stressInputAssertion .buslo) s =
          .next { u with load.qualifyTimer := some (s.load.stressqual.toNat * 1000) })
      ∧ (s.load.supovl = false → s.load.stressqual = 0 →
        ∃ t, exec (.stressInputAssertion .buslo) s = .next t ∧ RiseEffect u t))

/-- A release of a stress input while the other is released is a fall of raw stress: the qualify timer is cancelled, and
a qualified stress falls, in SHEDDING with the HOLD state entered for HOLD x 100 ms; while the other is asserted the
release changes the level record alone (R87, R88, R89, R92). -/
def Obligations.StressReleaseEndsTheEpisode : Prop :=
  ∀ (s : State) (i : StressInput), s.running →
    (match i with | .supovl => s.pins.supovl = true | .buslo => s.pins.buslo = true) →
    let u := match i with
      | .supovl => { s with load.supovl := false, pins.supovl := false }
      | .buslo => { s with load.buslo := false, pins.buslo := false }
    let other := match i with
      | .supovl => s.load.buslo
      | .buslo => s.load.supovl
    (other = true → exec (.stressInputRelease i) s = .next u)
    ∧ (other = false → s.load.qualified = false →
      exec (.stressInputRelease i) s = .next { u with load.qualifyTimer := none })
    ∧ (other = false → s.load.qualified = true → s.load.mode ≠ .shedding →
      exec (.stressInputRelease i) s = .next { u with load.qualifyTimer := none, load.qualified := false })
    ∧ (other = false → s.load.qualified = true → s.load.mode = .shedding →
      exec (.stressInputRelease i) s = .next
        { u with
          load.qualifyTimer := none, load.qualified := false, load.mode := .hold, load.shedTimer := none,
          load.exhausted := false, load.holdTimer := some (s.load.holdTime.toNat * 100000) })

/-- The expiry of the stress qualify timer raises qualified stress: STRESS is latched, a QUEUED branch in flight is
recalled, SHEDDING is entered and a shed step taken (R88, R89, R91, R97 to R100, R105; a rise in SHEDDING, which cannot be
taken, log 17). The expiry command is taken whatever ticks the timer has left (model's choice, log 5). -/
def Obligations.StressQualifyExpiryRaisesQualifiedStress : Prop :=
  ∀ s : State, s.clocked → s.load.qualifyTimer ≠ none →
    ∃ t, exec .stressQualifyExpiry s = .next t ∧ RiseEffect { s with load.qualifyTimer := none } t

/-- The shed interval expiry in SHEDDING takes one shed step and starts the interval anew for SHEDIVL x 10 ms
(R92, R97 to R100). The expiry command is taken whatever ticks the timer has left (model's choice, log 5). -/
def Obligations.ShedIntervalExpiryTakesOneShedStep : Prop :=
  ∀ s : State, s.clocked → s.load.shedTimer ≠ none → s.load.mode = .shedding →
    ∃ t m, exec .shedIntervalExpiry s = .next t ∧ ShedStepEffect { s with load.shedTimer := none } m
      ∧ t = { m with load.shedTimer := some (s.load.shedivl.toNat * 10000) }

/-- A shed step takes the one victim of R97 to SHED, on top of the stack. A branch that is neither the victim nor the
bottom of a full stack is left as it is, without a victim every branch is, and a branch of PRIORITY 0 is never shed (R97,
R98, R99). -/
def Obligations.ShedStepTakesAVictimIfThereIsOne : Prop :=
  ∀ s : State,
    (∀ v, s.victim = some v ↔ IsVictim s v)
    ∧ (s.victim = none ↔ ∀ b, (s.br b).state = .on → s.priority b = 0)
    ∧ (∀ v, s.victim = some v → (4 ≤ s.load.stack.length → s.load.stack.getLast? ≠ some v) →
      s.shedStep.br v = { (s.br v).withoutOnTimers with state := .shed } ∧ s.shedStep.load.stack.head? = some v)
    ∧ (s.victim = none → ∀ b, s.shedStep.br b = s.br b)
    ∧ ∀ b, s.victim ≠ some b → (4 ≤ s.load.stack.length → s.load.stack.getLast? ≠ some b) →
      s.shedStep.br b = s.br b

/-- The hold expiry in HOLD, and the restore spacing expiry in RESTORING, take a restore step if the stack holds an
entry: the top joins the close queue at its priority position as the branch in flight, with a RESTORE record; with the
stack empty the load manager enters CALM (R93, R102, R104). An expiry command is taken whatever ticks its timer has left
(model's choice, log 5). -/
def Obligations.RestoreStepPopsTheTop : Prop :=
  ∀ s : State, s.clocked →
    (s.load.mode = .hold → s.load.holdTimer ≠ none →
      (s.load.stack = [] → exec .holdExpiry s = .next { s with load.holdTimer := none, load.mode := .calm })
      ∧ ∀ b rest front back, s.load.stack = b :: rest → (s.br b).state = .shed → QueueSplit s b front back →
        ∃ t, exec .holdExpiry s = .next t ∧ RestoreEffect { s with load.holdTimer := none } t b rest front back)
    ∧ (s.load.mode = .restoring → s.load.spacingTimer ≠ none →
      (s.load.stack = [] →
        exec .restoreSpacingExpiry s = .next { s with load.spacingTimer := none, load.mode := .calm })
      ∧ ∀ b rest front back, s.load.stack = b :: rest → (s.br b).state = .shed → QueueSplit s b front back →
        ∃ t, exec .restoreSpacingExpiry s = .next t
          ∧ RestoreEffect { s with load.spacingTimer := none } t b rest front back)

/-! ### Profile signature -/

/-- SIGN: BAD_ARG for an argument outside 1 to 8, then BUSY while RUNNING, else the operation starts over the range
clamped at branch 8 with the register at FFFFh and the record timer at 16 us (R150). -/
def Obligations.SignStartsOrRefuses : Prop :=
  ∀ s : State, s.running →
    (¬(1 ≤ s.window.arg0.toNat ∧ s.window.arg0.toNat ≤ 8 ∧ 1 ≤ s.window.arg1.toNat ∧ s.window.arg1.toNat ≤ 8) →
      exec .sign s = .next { s with window.result := .badArg })
    ∧ ∀ first last : Branch, s.window.arg0.toNat = first.val + 1 → 1 ≤ s.window.arg1.toNat →
      s.window.arg1.toNat ≤ 8 → last.val + 1 = min (s.window.arg0.toNat + s.window.arg1.toNat - 1) 8 →
      (s.sig.state = .running → exec .sign s = .next { s with window.result := .busy })
      ∧ (s.sig.state ≠ .running →
        exec .sign s = .next
          { s with
            sig := { state := .running, first := first, last := last, progress := some first, crc := 0xFFFF,
                     timer := some 16 }
            window.result := .done })

/-- A signature record expiry folds the progress branch's record, and advances below the last branch or ends the
operation DONE with SIGN latched at it (R152). The record is the branch number and the eight profile bytes in the order of
their locations; a byte is combined with the upper eight bits of the register, which is then stepped eight times: shifted
up by one, and combined with 1021h if the bit shifted out was 1 (R151). The expiry command is taken whatever ticks the
timer has left (model's choice, log 5). -/
def Obligations.SignatureExpiryFoldsOneRecord : Prop :=
  (∀ (c : Half) (b : Branch) (p : Profile),
    let stepped := fun r : Half => if 0x8000 ≤ r.toNat then (r <<< 1) ^^^ 0x1021 else r <<< 1
    let folded := fun (r : Half) (v : Byte) => stepped^[8] (r ^^^ BitVec.ofNat 16 (256 * v.toNat))
    crcRecord c b p =
      ([BitVec.ofNat 8 (b.val + 1), p.priority, p.budget, p.deadbase,
        BitVec.ofNat 8 (p.escalation.toNat + 2 * p.autoStart.toNat), p.ocqual, p.blank, p.rise, p.settle]
          : List Byte).foldl folded c)
    ∧ ∀ (s : State) (b : Branch), s.clocked → s.sig.state = .running → s.sig.timer ≠ none → s.sig.progress = some b →
      (∀ next : Branch, b < s.sig.last → next.val = b.val + 1 →
        exec .signatureRecordExpiry s = .next
          { s with
            sig.crc := crcRecord s.sig.crc b (s.br b).profile
            sig.progress := some next
            sig.timer := some 16 })
      ∧ (s.sig.last ≤ b →
        exec .signatureRecordExpiry s = .next
          { s with
            sig.crc := crcRecord s.sig.crc b (s.br b).profile
            sig.state := .done
            sig.progress := none
            sig.timer := none
            irq.pending.sign := true })

/-- A SIGN taken with DONE and then one record expiry for each record of the range leave the engine DONE with SIGN
latched and the register holding the fold of all records of the range in ascending order from FFFFh; the profiles are
untouched (R150, R151, R152). Each expiry of this run is taken with all 16 ticks of its timer left, which is the model's
choice (log 5). -/
def Obligations.SignatureRunFoldsTheWholeRange : Prop :=
  ∀ (s : State) (first : Branch) (k : Nat), s.clocked → s.sig.state ≠ .running →
    s.window.arg0.toNat = first.val + 1 → 1 ≤ s.window.arg1.toNat → s.window.arg1.toNat ≤ 8 →
    k = min s.window.arg1.toNat (8 - first.val) →
    ∃ t : State,
      Host.Core.run Sys2Proof.core (k + 1)
          { s with pending := .sign :: List.replicate k .signatureRecordExpiry } = .next t
      ∧ t.sig.state = .done ∧ t.sig.progress = none ∧ t.sig.timer = none ∧ t.irq.pending.sign = true
      ∧ t.branches = s.branches ∧ t.pending = []
      ∧ t.sig.crc = ((List.finRange 8).filter fun b => decide (first.val ≤ b.val ∧ b.val < first.val + k)).foldl
          (fun c b => crcRecord c b (s.br b).profile) 0xFFFF

/-! ### The laws of the part -/

/-- At reset, with the input levels and the counts the model chooses (log 4, log 8, log 9), every law of
Sys2Proof/Safety.lean holds. -/
def Obligations.ResetIsLawful : Prop :=
  State.reset.branchesLawful ∧ State.reset.settingsLawful ∧ State.reset.admissionLawful ∧ State.reset.estopLawful
    ∧ State.reset.levelsLawful ∧ State.reset.stressLawful ∧ State.reset.detectorLawful ∧ State.reset.log.lawful
    ∧ State.reset.digest.lawful ∧ State.reset.signatureLawful ∧ State.reset.timeLawful ∧ State.reset.resetHeldLawful

/-- Every step keeps each branch's timers in their states and its attempt count within BUDGET (R16, R22). -/
def Obligations.StepKeepsBranchesLawful : Prop :=
  ∀ s t : State, s.branchesLawful → step s = .next t → t.branchesLawful

/-- Every step keeps every setting in its range, the sub-millisecond count below 1000, the position within the tick (R1,
R2, R4, R12, R53, R76, R109, R137), and the tick ends that a due grant has seen within the "few ticks" of R79, whose number
is the model's choice (log 4). -/
def Obligations.StepKeepsSettingsAndTimeLawful : Prop :=
  ∀ s t : State, s.settingsLawful → s.timeLawful → step s = .next t → t.settingsLawful ∧ t.timeLawful

/-- Every step keeps the close queue exactly the QUEUED branches in PRIORITY order, the inrush count the number of
INRUSH branches within SLOTS, the shed stack exactly the SHED branches within four and none of PRIORITY 0, and the load
manager's state, timers and flight in agreement (R70, R74, R90, R94, R103). -/
def Obligations.StepKeepsAdmissionLawful : Prop :=
  ∀ s t : State, s.admissionLawful → step s = .next t → t.admissionLawful

/-- Every step keeps every branch OFF or LOCKOUT while ESTOP# is asserted (R115). -/
def Obligations.StepKeepsEstopLawful : Prop :=
  ∀ s t : State, s.admissionLawful → s.estopLawful → step s = .next t → t.estopLawful

/-- Every step keeps the level records at the pins outside RESET#, and qualified stress and the qualify timer under raw
stress (R32, R87, R88, R111, R122). -/
def Obligations.StepKeepsLevelsAndStressLawful : Prop :=
  ∀ s t : State, s.levelsLawful → s.stressLawful → step s = .next t → t.levelsLawful ∧ t.stressLawful

/-- Every step keeps every armed input acted on: no ON or INRUSH branch with SCn# asserted, an OC qualify timer exactly
for an ON branch with OCn# asserted, a PG-loss timer exactly for one with PGn released (R35 to R37, R41, R42, R47 to
R50). -/
def Obligations.StepKeepsDetectorsLawful : Prop :=
  ∀ s t : State, s.branchesLawful → s.detectorLawful → step s = .next t → t.detectorLawful

/-- Every step keeps the log within 16 records with consecutive sequence numbers and lawful records, and the
first-tripped branch absent exactly with an empty trip set (R124, R126, R140). -/
def Obligations.StepKeepsLogAndDigestLawful : Prop :=
  ∀ s t : State, s.log.lawful → s.digest.lawful → step s = .next t → t.log.lawful ∧ t.digest.lawful

/-- Every step keeps the signature engine's progress branch and record timer in agreement with its state
(R152 to R156). -/
def Obligations.StepKeepsSignatureLawful : Prop :=
  ∀ s t : State, s.signatureLawful → step s = .next t → t.signatureLawful

/-- Every step keeps every branch OFF, and queue, stack and load manager empty, while RESET# is held (R31, R121). -/
def Obligations.StepKeepsHeldResetLawful : Prop :=
  ∀ s t : State, s.resetHeldLawful → step s = .next t → t.resetHeldLawful
end

