-- ==== Sys2Proof/Laws/Queue.lean ====
section
/-! SUPPORT. What insertion into the close queue and the interleaving of the events of one tick end do to a list. -/

namespace Sys2Proof.Machine

/-! ### The close queue (R71, R73) -/

theorem insertByPriority_perm (prio : Branch → Nat) (b : Branch) (l : List Branch) :
    (insertByPriority prio b l).Perm (b :: l) := by
  induction l with
  | nil => simp [insertByPriority]
  | cons c cs ih =>
    unfold insertByPriority
    split
    · exact (ih.cons c).trans (List.Perm.swap b c cs)
    · exact List.Perm.refl _

@[simp] theorem mem_insertByPriority {prio : Branch → Nat} {b c : Branch} {l : List Branch} :
    c ∈ insertByPriority prio b l ↔ c = b ∨ c ∈ l := by
  rw [(insertByPriority_perm prio b l).mem_iff, List.mem_cons]

theorem insertByPriority_nodup {prio : Branch → Nat} {b : Branch} {l : List Branch} (hb : b ∉ l) (hl : l.Nodup) :
    (insertByPriority prio b l).Nodup :=
  (insertByPriority_perm prio b l).nodup_iff.mpr (List.nodup_cons.mpr ⟨hb, hl⟩)

theorem insertByPriority_length (prio : Branch → Nat) (b : Branch) (l : List Branch) :
    (insertByPriority prio b l).length = l.length + 1 := by
  simpa using (insertByPriority_perm prio b l).length_eq

/-- Insertion keeps the queue in ascending PRIORITY. -/
theorem insertByPriority_pairwise {prio : Branch → Nat} (b : Branch) {l : List Branch}
    (h : l.Pairwise fun a c => prio a ≤ prio c) :
    (insertByPriority prio b l).Pairwise fun a c => prio a ≤ prio c := by
  induction l with
  | nil => simp [insertByPriority]
  | cons c cs ih =>
    obtain ⟨hc, hcs⟩ := List.pairwise_cons.mp h
    unfold insertByPriority
    split
    · rename_i hle
      refine List.pairwise_cons.mpr ⟨fun a ha => ?_, ih hcs⟩
      rcases mem_insertByPriority.mp ha with rfl | ha
      · exact hle
      · exact hc a ha
    · rename_i hlt
      refine List.pairwise_cons.mpr ⟨fun a ha => ?_, h⟩
      rcases List.mem_cons.mp ha with rfl | ha
      · omega
      · have := hc a ha; omega

/-- The place of the new entry: behind what is equal or smaller, ahead of what is larger. -/
theorem insertByPriority_split {prio : Branch → Nat} {b : Branch} {front back : List Branch}
    (hf : ∀ c ∈ front, prio c ≤ prio b) (hb : ∀ c ∈ back, prio b < prio c) :
    insertByPriority prio b (front ++ back) = front ++ b :: back := by
  induction front with
  | nil =>
    cases back with
    | nil => rfl
    | cons c cs =>
      have : ¬ prio c ≤ prio b := by have := hb c (by simp); omega
      simp [insertByPriority, this]
  | cons c cs ih =>
    have hc : prio c ≤ prio b := hf c (by simp)
    have := ih fun d hd => hf d (by simp [hd])
    simp [insertByPriority, hc, this]

/-- Only the priorities of the entries and of the new one count. -/
theorem insertByPriority_congr {p q : Branch → Nat} {b : Branch} {l : List Branch} (hb : p b = q b)
    (hl : ∀ c ∈ l, p c = q c) : insertByPriority p b l = insertByPriority q b l := by
  induction l with
  | nil => rfl
  | cons c cs ih =>
    have := ih fun d hd => hl d (by simp [hd])
    simp [insertByPriority, hb, hl c (by simp), this]

/-- A removal takes the one entry and leaves the others in their order. -/
theorem filter_ne_split {b : Branch} {front back : List Branch} (hf : b ∉ front) (hb : b ∉ back) :
    (front ++ b :: back).filter (· != b) = front ++ back := by
  have keep : ∀ l : List Branch, b ∉ l → l.filter (· != b) = l := fun l hl =>
    List.filter_eq_self.mpr fun a ha => by
      have : a ≠ b := fun e => hl (e ▸ ha)
      simpa using this
  simp [keep front hf, keep back hb]

/-! ### The events of one tick end (R7, log 3) -/

theorem insertAt_perm (i : Instr) (n : Nat) (l : List Instr) : (insertAt i n l).Perm (i :: l) := by
  induction l generalizing n with
  | nil => cases n <;> exact List.Perm.refl _
  | cons j l ih =>
    cases n with
    | zero => exact List.Perm.refl _
    | succ n => exact ((ih n).cons j).trans (List.Perm.swap i j l)

theorem interleave_perm (free : Nat) (l : List Instr) : (interleave free l).Perm l := by
  induction l generalizing free with
  | nil => exact List.Perm.refl _
  | cons i l ih =>
    have h := (ih (free + 1)).cons i
    unfold interleave
    generalize interleave (free + 1) l = rest at h
    cases rest with
    | nil => exact h
    | cons j rest => exact (insertAt_perm i _ _).trans h

@[simp] theorem Timer.countDown_eq (t : Timer) : Timer.countDown t = t.map (· - 1) := by
  cases t with
  | none => rfl
  | some n => cases n <;> rfl

end Sys2Proof.Machine
end

