-- ==== Sys2Proof/Laws/State.lean ====
section
/-! SUPPORT. One lemma per field for each update of the state, true by rfl, and what an update does to the record of a
branch. No later proof unfolds a record update. -/

namespace Sys2Proof.Machine

variable (s : State) (b : Branch) (r : BranchRec) (f : BranchRec → BranchRec)
variable (src : Source) (rc : ResultCode) (ws : WriteStatus) (o : Offer) (st : SignState) (c : RecordCause)

/-! ### `State.setBr` -/

@[simp] theorem State.setBr_time : (s.setBr b r).time = s.time := rfl
@[simp] theorem State.setBr_branches : (s.setBr b r).branches = s.branches.set b r := rfl
@[simp] theorem State.setBr_pgqual : (s.setBr b r).pgqual = s.pgqual := rfl
@[simp] theorem State.setBr_arbiter : (s.setBr b r).arbiter = s.arbiter := rfl
@[simp] theorem State.setBr_load : (s.setBr b r).load = s.load := rfl
@[simp] theorem State.setBr_estop : (s.setBr b r).estop = s.estop := rfl
@[simp] theorem State.setBr_log : (s.setBr b r).log = s.log := rfl
@[simp] theorem State.setBr_digest : (s.setBr b r).digest = s.digest := rfl
@[simp] theorem State.setBr_irq : (s.setBr b r).irq = s.irq := rfl
@[simp] theorem State.setBr_sig : (s.setBr b r).sig = s.sig := rfl
@[simp] theorem State.setBr_window : (s.setBr b r).window = s.window := rfl
@[simp] theorem State.setBr_pins : (s.setBr b r).pins = s.pins := rfl
@[simp] theorem State.setBr_free : (s.setBr b r).free = s.free := rfl
@[simp] theorem State.setBr_grantWait : (s.setBr b r).grantWait = s.grantWait := rfl
@[simp] theorem State.setBr_pending : (s.setBr b r).pending = s.pending := rfl

/-! ### `State.updBr` -/

@[simp] theorem State.updBr_time : (s.updBr b f).time = s.time := rfl
@[simp] theorem State.updBr_branches : (s.updBr b f).branches = s.branches.set b (f (s.br b)) := rfl
@[simp] theorem State.updBr_pgqual : (s.updBr b f).pgqual = s.pgqual := rfl
@[simp] theorem State.updBr_arbiter : (s.updBr b f).arbiter = s.arbiter := rfl
@[simp] theorem State.updBr_load : (s.updBr b f).load = s.load := rfl
@[simp] theorem State.updBr_estop : (s.updBr b f).estop = s.estop := rfl
@[simp] theorem State.updBr_log : (s.updBr b f).log = s.log := rfl
@[simp] theorem State.updBr_digest : (s.updBr b f).digest = s.digest := rfl
@[simp] theorem State.updBr_irq : (s.updBr b f).irq = s.irq := rfl
@[simp] theorem State.updBr_sig : (s.updBr b f).sig = s.sig := rfl
@[simp] theorem State.updBr_window : (s.updBr b f).window = s.window := rfl
@[simp] theorem State.updBr_pins : (s.updBr b f).pins = s.pins := rfl
@[simp] theorem State.updBr_free : (s.updBr b f).free = s.free := rfl
@[simp] theorem State.updBr_grantWait : (s.updBr b f).grantWait = s.grantWait := rfl
@[simp] theorem State.updBr_pending : (s.updBr b f).pending = s.pending := rfl

/-! ### `State.mapBr` -/

@[simp] theorem State.mapBr_time : (s.mapBr f).time = s.time := rfl
@[simp] theorem State.mapBr_branches : (s.mapBr f).branches = Vector.ofFn fun b : Branch => f (s.br b) := rfl
@[simp] theorem State.mapBr_pgqual : (s.mapBr f).pgqual = s.pgqual := rfl
@[simp] theorem State.mapBr_arbiter : (s.mapBr f).arbiter = s.arbiter := rfl
@[simp] theorem State.mapBr_load : (s.mapBr f).load = s.load := rfl
@[simp] theorem State.mapBr_estop : (s.mapBr f).estop = s.estop := rfl
@[simp] theorem State.mapBr_log : (s.mapBr f).log = s.log := rfl
@[simp] theorem State.mapBr_digest : (s.mapBr f).digest = s.digest := rfl
@[simp] theorem State.mapBr_irq : (s.mapBr f).irq = s.irq := rfl
@[simp] theorem State.mapBr_sig : (s.mapBr f).sig = s.sig := rfl
@[simp] theorem State.mapBr_window : (s.mapBr f).window = s.window := rfl
@[simp] theorem State.mapBr_pins : (s.mapBr f).pins = s.pins := rfl
@[simp] theorem State.mapBr_free : (s.mapBr f).free = s.free := rfl
@[simp] theorem State.mapBr_grantWait : (s.mapBr f).grantWait = s.grantWait := rfl
@[simp] theorem State.mapBr_pending : (s.mapBr f).pending = s.pending := rfl

/-! ### `State.latch` -/

@[simp] theorem State.latch_time : (s.latch src).time = s.time := rfl
@[simp] theorem State.latch_branches : (s.latch src).branches = s.branches := rfl
@[simp] theorem State.latch_pgqual : (s.latch src).pgqual = s.pgqual := rfl
@[simp] theorem State.latch_arbiter : (s.latch src).arbiter = s.arbiter := rfl
@[simp] theorem State.latch_load : (s.latch src).load = s.load := rfl
@[simp] theorem State.latch_estop : (s.latch src).estop = s.estop := rfl
@[simp] theorem State.latch_log : (s.latch src).log = s.log := rfl
@[simp] theorem State.latch_digest : (s.latch src).digest = s.digest := rfl
@[simp] theorem State.latch_irq : (s.latch src).irq = { s.irq with pending := s.irq.pending.add src } := rfl
@[simp] theorem State.latch_sig : (s.latch src).sig = s.sig := rfl
@[simp] theorem State.latch_window : (s.latch src).window = s.window := rfl
@[simp] theorem State.latch_pins : (s.latch src).pins = s.pins := rfl
@[simp] theorem State.latch_free : (s.latch src).free = s.free := rfl
@[simp] theorem State.latch_grantWait : (s.latch src).grantWait = s.grantWait := rfl
@[simp] theorem State.latch_pending : (s.latch src).pending = s.pending := rfl

/-! ### `State.withResult` -/

@[simp] theorem State.withResult_time : (s.withResult rc).time = s.time := rfl
@[simp] theorem State.withResult_branches : (s.withResult rc).branches = s.branches := rfl
@[simp] theorem State.withResult_pgqual : (s.withResult rc).pgqual = s.pgqual := rfl
@[simp] theorem State.withResult_arbiter : (s.withResult rc).arbiter = s.arbiter := rfl
@[simp] theorem State.withResult_load : (s.withResult rc).load = s.load := rfl
@[simp] theorem State.withResult_estop : (s.withResult rc).estop = s.estop := rfl
@[simp] theorem State.withResult_log : (s.withResult rc).log = s.log := rfl
@[simp] theorem State.withResult_digest : (s.withResult rc).digest = s.digest := rfl
@[simp] theorem State.withResult_irq : (s.withResult rc).irq = s.irq := rfl
@[simp] theorem State.withResult_sig : (s.withResult rc).sig = s.sig := rfl
@[simp] theorem State.withResult_window : (s.withResult rc).window = { s.window with result := rc } := rfl
@[simp] theorem State.withResult_pins : (s.withResult rc).pins = s.pins := rfl
@[simp] theorem State.withResult_free : (s.withResult rc).free = s.free := rfl
@[simp] theorem State.withResult_grantWait : (s.withResult rc).grantWait = s.grantWait := rfl
@[simp] theorem State.withResult_pending : (s.withResult rc).pending = s.pending := rfl

/-! ### `State.withWstat` -/

@[simp] theorem State.withWstat_time : (s.withWstat ws).time = s.time := rfl
@[simp] theorem State.withWstat_branches : (s.withWstat ws).branches = s.branches := rfl
@[simp] theorem State.withWstat_pgqual : (s.withWstat ws).pgqual = s.pgqual := rfl
@[simp] theorem State.withWstat_arbiter : (s.withWstat ws).arbiter = s.arbiter := rfl
@[simp] theorem State.withWstat_load : (s.withWstat ws).load = s.load := rfl
@[simp] theorem State.withWstat_estop : (s.withWstat ws).estop = s.estop := rfl
@[simp] theorem State.withWstat_log : (s.withWstat ws).log = s.log := rfl
@[simp] theorem State.withWstat_digest : (s.withWstat ws).digest = s.digest := rfl
@[simp] theorem State.withWstat_irq : (s.withWstat ws).irq = s.irq := rfl
@[simp] theorem State.withWstat_sig : (s.withWstat ws).sig = s.sig := rfl
@[simp] theorem State.withWstat_window : (s.withWstat ws).window = { s.window with wstat := ws } := rfl
@[simp] theorem State.withWstat_pins : (s.withWstat ws).pins = s.pins := rfl
@[simp] theorem State.withWstat_free : (s.withWstat ws).free = s.free := rfl
@[simp] theorem State.withWstat_grantWait : (s.withWstat ws).grantWait = s.grantWait := rfl
@[simp] theorem State.withWstat_pending : (s.withWstat ws).pending = s.pending := rfl

/-! ### `State.offer` -/

@[simp] theorem State.offer_time : (s.offer o).time = s.time := rfl
@[simp] theorem State.offer_branches : (s.offer o).branches = s.branches := rfl
@[simp] theorem State.offer_pgqual : (s.offer o).pgqual = s.pgqual := rfl
@[simp] theorem State.offer_arbiter : (s.offer o).arbiter = s.arbiter := rfl
@[simp] theorem State.offer_load : (s.offer o).load = s.load := rfl
@[simp] theorem State.offer_estop : (s.offer o).estop = s.estop := rfl
@[simp] theorem State.offer_log : (s.offer o).log = s.log.take o s.time.ms := rfl
@[simp] theorem State.offer_digest : (s.offer o).digest = s.digest := rfl
@[simp] theorem State.offer_irq : (s.offer o).irq = s.irq := rfl
@[simp] theorem State.offer_sig : (s.offer o).sig = s.sig := rfl
@[simp] theorem State.offer_window : (s.offer o).window = s.window := rfl
@[simp] theorem State.offer_pins : (s.offer o).pins = s.pins := rfl
@[simp] theorem State.offer_free : (s.offer o).free = s.free := rfl
@[simp] theorem State.offer_grantWait : (s.offer o).grantWait = s.grantWait := rfl
@[simp] theorem State.offer_pending : (s.offer o).pending = s.pending := rfl

/-! ### `State.joinQueue` -/

@[simp] theorem State.joinQueue_time : (s.joinQueue b).time = s.time := rfl
@[simp] theorem State.joinQueue_branches :
    (s.joinQueue b).branches = s.branches.set b ((s.br b).moveTo .queued) := rfl
@[simp] theorem State.joinQueue_pgqual : (s.joinQueue b).pgqual = s.pgqual := rfl
@[simp] theorem State.joinQueue_arbiter :
    (s.joinQueue b).arbiter = { s.arbiter with queue := insertByPriority s.priority b s.arbiter.queue } := rfl
@[simp] theorem State.joinQueue_load : (s.joinQueue b).load = s.load := rfl
@[simp] theorem State.joinQueue_estop : (s.joinQueue b).estop = s.estop := rfl
@[simp] theorem State.joinQueue_log : (s.joinQueue b).log = s.log := rfl
@[simp] theorem State.joinQueue_digest : (s.joinQueue b).digest = s.digest := rfl
@[simp] theorem State.joinQueue_irq : (s.joinQueue b).irq = s.irq := rfl
@[simp] theorem State.joinQueue_sig : (s.joinQueue b).sig = s.sig := rfl
@[simp] theorem State.joinQueue_window : (s.joinQueue b).window = s.window := rfl
@[simp] theorem State.joinQueue_pins : (s.joinQueue b).pins = s.pins := rfl
@[simp] theorem State.joinQueue_free : (s.joinQueue b).free = s.free := rfl
@[simp] theorem State.joinQueue_grantWait : (s.joinQueue b).grantWait = s.grantWait := rfl
@[simp] theorem State.joinQueue_pending : (s.joinQueue b).pending = s.pending := rfl

/-! ### `State.leaveQueue` -/

@[simp] theorem State.leaveQueue_time : (s.leaveQueue b).time = s.time := rfl
@[simp] theorem State.leaveQueue_branches : (s.leaveQueue b).branches = s.branches := rfl
@[simp] theorem State.leaveQueue_pgqual : (s.leaveQueue b).pgqual = s.pgqual := rfl
@[simp] theorem State.leaveQueue_arbiter :
    (s.leaveQueue b).arbiter = { s.arbiter with queue := s.arbiter.queue.filter (· != b) } := rfl
@[simp] theorem State.leaveQueue_load : (s.leaveQueue b).load = s.load := rfl
@[simp] theorem State.leaveQueue_estop : (s.leaveQueue b).estop = s.estop := rfl
@[simp] theorem State.leaveQueue_log : (s.leaveQueue b).log = s.log := rfl
@[simp] theorem State.leaveQueue_digest : (s.leaveQueue b).digest = s.digest := rfl
@[simp] theorem State.leaveQueue_irq : (s.leaveQueue b).irq = s.irq := rfl
@[simp] theorem State.leaveQueue_sig : (s.leaveQueue b).sig = s.sig := rfl
@[simp] theorem State.leaveQueue_window : (s.leaveQueue b).window = s.window := rfl
@[simp] theorem State.leaveQueue_pins : (s.leaveQueue b).pins = s.pins := rfl
@[simp] theorem State.leaveQueue_free : (s.leaveQueue b).free = s.free := rfl
@[simp] theorem State.leaveQueue_grantWait : (s.leaveQueue b).grantWait = s.grantWait := rfl
@[simp] theorem State.leaveQueue_pending : (s.leaveQueue b).pending = s.pending := rfl

/-! ### `State.releaseSlot` -/

@[simp] theorem State.releaseSlot_time : s.releaseSlot.time = s.time := rfl
@[simp] theorem State.releaseSlot_branches : s.releaseSlot.branches = s.branches := rfl
@[simp] theorem State.releaseSlot_pgqual : s.releaseSlot.pgqual = s.pgqual := rfl
@[simp] theorem State.releaseSlot_arbiter :
    s.releaseSlot.arbiter = { s.arbiter with inrushCount := s.arbiter.inrushCount - 1 } := rfl
@[simp] theorem State.releaseSlot_load : s.releaseSlot.load = s.load := rfl
@[simp] theorem State.releaseSlot_estop : s.releaseSlot.estop = s.estop := rfl
@[simp] theorem State.releaseSlot_log : s.releaseSlot.log = s.log := rfl
@[simp] theorem State.releaseSlot_digest : s.releaseSlot.digest = s.digest := rfl
@[simp] theorem State.releaseSlot_irq : s.releaseSlot.irq = s.irq := rfl
@[simp] theorem State.releaseSlot_sig : s.releaseSlot.sig = s.sig := rfl
@[simp] theorem State.releaseSlot_window : s.releaseSlot.window = s.window := rfl
@[simp] theorem State.releaseSlot_pins : s.releaseSlot.pins = s.pins := rfl
@[simp] theorem State.releaseSlot_free : s.releaseSlot.free = s.free := rfl
@[simp] theorem State.releaseSlot_grantWait : s.releaseSlot.grantWait = s.grantWait := rfl
@[simp] theorem State.releaseSlot_pending : s.releaseSlot.pending = s.pending := rfl

/-! ### `State.startShedTimer` -/

@[simp] theorem State.startShedTimer_time : s.startShedTimer.time = s.time := rfl
@[simp] theorem State.startShedTimer_branches : s.startShedTimer.branches = s.branches := rfl
@[simp] theorem State.startShedTimer_pgqual : s.startShedTimer.pgqual = s.pgqual := rfl
@[simp] theorem State.startShedTimer_arbiter : s.startShedTimer.arbiter = s.arbiter := rfl
@[simp] theorem State.startShedTimer_load :
    s.startShedTimer.load = { s.load with shedTimer := some (shedIntervalTicks s.load) } := rfl
@[simp] theorem State.startShedTimer_estop : s.startShedTimer.estop = s.estop := rfl
@[simp] theorem State.startShedTimer_log : s.startShedTimer.log = s.log := rfl
@[simp] theorem State.startShedTimer_digest : s.startShedTimer.digest = s.digest := rfl
@[simp] theorem State.startShedTimer_irq : s.startShedTimer.irq = s.irq := rfl
@[simp] theorem State.startShedTimer_sig : s.startShedTimer.sig = s.sig := rfl
@[simp] theorem State.startShedTimer_window : s.startShedTimer.window = s.window := rfl
@[simp] theorem State.startShedTimer_pins : s.startShedTimer.pins = s.pins := rfl
@[simp] theorem State.startShedTimer_free : s.startShedTimer.free = s.free := rfl
@[simp] theorem State.startShedTimer_grantWait : s.startShedTimer.grantWait = s.grantWait := rfl
@[simp] theorem State.startShedTimer_pending : s.startShedTimer.pending = s.pending := rfl

/-! ### `State.endSignature` -/

@[simp] theorem State.endSignature_time : (s.endSignature st).time = s.time := rfl
@[simp] theorem State.endSignature_branches : (s.endSignature st).branches = s.branches := rfl
@[simp] theorem State.endSignature_pgqual : (s.endSignature st).pgqual = s.pgqual := rfl
@[simp] theorem State.endSignature_arbiter : (s.endSignature st).arbiter = s.arbiter := rfl
@[simp] theorem State.endSignature_load : (s.endSignature st).load = s.load := rfl
@[simp] theorem State.endSignature_estop : (s.endSignature st).estop = s.estop := rfl
@[simp] theorem State.endSignature_log : (s.endSignature st).log = s.log := rfl
@[simp] theorem State.endSignature_digest : (s.endSignature st).digest = s.digest := rfl
@[simp] theorem State.endSignature_irq :
    (s.endSignature st).irq = { s.irq with pending := s.irq.pending.add .sign } := rfl
@[simp] theorem State.endSignature_sig :
    (s.endSignature st).sig = { s.sig with state := st, progress := none, timer := none } := rfl
@[simp] theorem State.endSignature_window : (s.endSignature st).window = s.window := rfl
@[simp] theorem State.endSignature_pins : (s.endSignature st).pins = s.pins := rfl
@[simp] theorem State.endSignature_free : (s.endSignature st).free = s.free := rfl
@[simp] theorem State.endSignature_grantWait : (s.endSignature st).grantWait = s.grantWait := rfl
@[simp] theorem State.endSignature_pending : (s.endSignature st).pending = s.pending := rfl

/-! ### `State.takeAllOff` -/

@[simp] theorem State.takeAllOff_time : (s.takeAllOff c).time = s.time := rfl
@[simp] theorem State.takeAllOff_branches :
    (s.takeAllOff c).branches = Vector.ofFn fun b : Branch => if (s.br b).state.active then (s.br b).toOff else s.br b := rfl
@[simp] theorem State.takeAllOff_pgqual : (s.takeAllOff c).pgqual = s.pgqual := rfl
@[simp] theorem State.takeAllOff_arbiter : (s.takeAllOff c).arbiter = s.arbiter.emptied := rfl
@[simp] theorem State.takeAllOff_load : (s.takeAllOff c).load = s.load.calmed := rfl
@[simp] theorem State.takeAllOff_estop : (s.takeAllOff c).estop = s.estop := rfl
@[simp] theorem State.takeAllOff_digest : (s.takeAllOff c).digest = s.digest := rfl
@[simp] theorem State.takeAllOff_irq : (s.takeAllOff c).irq = s.irq := rfl
@[simp] theorem State.takeAllOff_sig : (s.takeAllOff c).sig = s.sig := rfl
@[simp] theorem State.takeAllOff_window : (s.takeAllOff c).window = s.window := rfl
@[simp] theorem State.takeAllOff_pins : (s.takeAllOff c).pins = s.pins := rfl
@[simp] theorem State.takeAllOff_free : (s.takeAllOff c).free = s.free := rfl
@[simp] theorem State.takeAllOff_grantWait : (s.takeAllOff c).grantWait = s.grantWait := rfl
@[simp] theorem State.takeAllOff_pending : (s.takeAllOff c).pending = s.pending := rfl

/-! ### The record of a branch -/

/-- A state's branch record depends on its branches alone. -/
theorem State.br_congr {s t : State} (h : t.branches = s.branches) (c : Branch) : t.br c = s.br c := by
  simp [State.br, h]

theorem State.br_set (t : State) (h : t.branches = s.branches.set b r) (c : Branch) :
    t.br c = if c = b then r else s.br c := by
  simp only [State.br, h]
  by_cases hc : c = b
  · subst hc; simp
  · have hv : b.val ≠ c.val := fun e => hc (Fin.ext e.symm)
    simp [hc, hv]

@[simp] theorem State.br_setBr (c : Branch) :
    (s.setBr b r).br c = if c = b then r else s.br c := State.br_set s b r _ rfl c

@[simp] theorem State.br_updBr (c : Branch) :
    (s.updBr b f).br c = if c = b then f (s.br b) else s.br c := State.br_set s b _ _ rfl c

@[simp] theorem State.br_joinQueue (c : Branch) :
    (s.joinQueue b).br c = if c = b then (s.br b).moveTo .queued else s.br c := State.br_set s b _ _ rfl c

@[simp] theorem State.br_mapBr (c : Branch) : (s.mapBr f).br c = f (s.br c) := by
  simp [State.br]

@[simp] theorem State.br_takeAllOff (cause : RecordCause) (c : Branch) :
    (s.takeAllOff cause).br c = if (s.br c).state.active then (s.br c).toOff else s.br c := by
  simp only [State.br, State.takeAllOff_branches, Fin.getElem_fin, Vector.getElem_ofFn]

@[simp] theorem State.br_latch (c' : Branch) : (s.latch src).br c' = s.br c' := rfl
@[simp] theorem State.br_withResult (c' : Branch) : (s.withResult rc).br c' = s.br c' := rfl
@[simp] theorem State.br_withWstat (c' : Branch) : (s.withWstat ws).br c' = s.br c' := rfl
@[simp] theorem State.br_offer (c' : Branch) : (s.offer o).br c' = s.br c' := rfl
@[simp] theorem State.br_leaveQueue (c' : Branch) : (s.leaveQueue b).br c' = s.br c' := rfl
@[simp] theorem State.br_releaseSlot (c' : Branch) : s.releaseSlot.br c' = s.br c' := rfl
@[simp] theorem State.br_startShedTimer (c' : Branch) : s.startShedTimer.br c' = s.br c' := rfl
@[simp] theorem State.br_endSignature (c' : Branch) : (s.endSignature st).br c' = s.br c' := rfl
end Sys2Proof.Machine
end

