-- ==== Sys2Proof/Laws/Clock.lean ====
section
/-! SUPPORT. What the end of a tick, a step on an empty queue and a change of the bus can do, each said once. -/

namespace Sys2Proof.Machine

/-! ### The events of a tick end (R2, R7) -/

/-- An event listed with its timer is due exactly if the timer stands at zero. -/
theorem mem_dueOf {l : List (Timer × Instr)} {c : Instr} :
    c ∈ (l.filterMap fun p => if p.1 = some 0 then some p.2 else none) ↔ (some 0, c) ∈ l := by
  simp only [List.mem_filterMap, Option.ite_none_right_eq_some, Option.some.injEq]
  exact ⟨fun ⟨⟨_, _⟩, h, h0, hc⟩ => by simp only at h0 hc; exact h0 ▸ hc ▸ h, fun h => ⟨_, h, rfl, rfl⟩⟩

/-- The due expiries are those of the timers at zero. -/
theorem State.mem_dueExpiries (s : State) (c : Instr) : c ∈ s.dueExpiries ↔ TimerAtZero s c := by
  unfold State.dueExpiries BranchRec.dueExpiries
  simp only [List.mem_append, List.mem_flatMap, mem_dueOf]
  cases c <;> simp [TimerAtZero, allBranches, eq_comm]

theorem nodup_dueOf {l : List (Timer × Instr)} (h : (l.map Prod.snd).Nodup) :
    (l.filterMap fun p => if p.1 = some 0 then some p.2 else none).Nodup := by
  refine List.Nodup.sublist ?_ h
  induction l with
  | nil => exact List.Sublist.refl _
  | cons p l ih =>
    have := ih (List.nodup_cons.mp h).2
    by_cases hp : p.1 = some 0 <;> simp [hp, this]

/-- No expiry is due twice. -/
theorem State.nodup_dueExpiries (s : State) : s.dueExpiries.Nodup := by
  unfold State.dueExpiries
  refine List.Nodup.append (List.nodup_flatMap.mpr ⟨fun n _ => nodup_dueOf (by simp), ?_⟩) (nodup_dueOf (by simp)) ?_
  · refine (List.nodup_finRange 8).imp fun {a b} hab c ha hb => ?_
    replace ha := mem_dueOf.mp ha
    replace hb := mem_dueOf.mp hb
    simp only [List.mem_cons, Prod.mk.injEq, List.not_mem_nil, or_false] at ha hb
    rcases ha with h | h | h | h | h | h <;> (obtain ⟨-, rfl⟩ := h; simp [hab] at hb)
  · intro c ha hb
    simp only [List.mem_flatMap] at ha
    obtain ⟨n, -, ha⟩ := ha
    replace ha := mem_dueOf.mp ha
    replace hb := mem_dueOf.mp hb
    simp only [List.mem_cons, Prod.mk.injEq, List.not_mem_nil, or_false] at ha hb
    rcases ha with h | h | h | h | h | h <;> (obtain ⟨-, rfl⟩ := h; simp at hb)

/-- The end of a tick with no command waiting. -/
theorem State.endTick_effect {s : State} (h : s.pending = []) : TickEndEffect s s.endTick := by
  have hbr : ∀ b, s.endTick.br b = (s.br b).countDown := fun b => State.br_mapBr s BranchRec.countDown b
  have hz : ∀ c, TimerAtZero s.endTick c ↔ TimerAtZero s.countDown c := fun c => by cases c <;> rfl
  have hp : s.endTick.pending.Perm
      (s.countDown.dueExpiries ++ if 999 ≤ s.time.subMs then [.millisecondBoundary] else []) := by
    have := interleave_perm s.countDown.free
      (s.countDown.dueExpiries ++ if 999 ≤ s.time.subMs then [.millisecondBoundary] else [])
    have hs : (Config.ticksPerMs ≤ s.countDown.time.subMs + 1) = (999 ≤ s.time.subMs) := by
      simp [State.countDown, Config.ticksPerMs]
    have hq : s.countDown.pending = [] := h
    simpa [State.endTick, hs, hq] using this
  have hm : ∀ c, c ∈ s.endTick.pending ↔ TimerAtZero s.endTick c ∨ (c = .millisecondBoundary ∧ 999 ≤ s.time.subMs) := by
    intro c
    rw [hp.mem_iff, List.mem_append, State.mem_dueExpiries, hz]
    split <;> simp_all
  have hn : s.endTick.pending.Nodup := by
    rw [hp.nodup_iff]
    split
    · refine List.Nodup.append s.countDown.nodup_dueExpiries (List.nodup_singleton _) ?_
      intro c hc hb
      rw [List.mem_singleton.mp hb, State.mem_dueExpiries] at hc
      exact hc
    · simpa using s.countDown.nodup_dueExpiries
  refine ⟨fun b => ?_, ?_, ?_, ?_, ?_, hn, hm, rfl, rfl, rfl, rfl, rfl, rfl, rfl⟩
  · simp only [hbr, BranchRec.countDown, Timer.countDown_eq]
  · simp [State.endTick, State.countDown]
  · simp [State.endTick, State.countDown]
  · simp [State.endTick, State.countDown]
  · by_cases hs : s.time.subMs < 999
    · simp [State.endTick, State.countDown, Config.ticksPerMs, hs, show ¬999 ≤ s.time.subMs by omega]
    · simp [State.endTick, State.countDown, Config.ticksPerMs, hs, show 999 ≤ s.time.subMs by omega]

@[simp] theorem State.endTick_grantWait (s : State) : s.endTick.grantWait = s.grantWait := rfl

/-- One period of CLKIN ends the tick or moves the position within it on (R1). -/
theorem State.clockPeriod_eq (s : State) :
    s.clockPeriod =
      if s.time.tickLength ≤ s.time.divider + 1 then s.endTick
      else { s with time.divider := s.time.divider + 1 } := by
  simp [State.clockPeriod, Timebase.lastPeriod]

/-- Everything a step on an empty queue can do (R1, R77, R121; log 2, log 4). -/
theorem State.idle_cases {s : State} (h : s.pending = []) :
    ((s.pins.reset = true ∨ s.pins.clkin = false) ∧ s.idle = s)
    ∨ (s.clocked ∧ s.grantCondition = false ∧ s.idle = State.clockPeriod { s with grantWait := 0 })
    ∨ (s.clocked ∧ s.grantCondition = true ∧ s.idle = s.withGrant)
    ∨ (s.clocked ∧ s.grantCondition = true ∧ s.grantWait < Config.grantTicks ∧ s.idle = s.deferGrant) := by
  by_cases hc : s.clocked
  · have hi : s.idle =
        if s.grantCondition then
          if decide (Config.grantTicks ≤ s.grantWait) || Config.grantTaken s.free then s.queueGrant else s.deferGrant
        else State.clockPeriod { s with grantWait := 0 } := by
      unfold State.idle State.whenClocked; rw [hc.1, hc.2]; rfl
    have hq : s.queueGrant = s.withGrant := by unfold State.queueGrant State.withGrant; rw [h]; rfl
    rw [hi]
    cases hg : s.grantCondition with
    | false => exact .inr (.inl ⟨hc, rfl, rfl⟩)
    | true =>
      by_cases hw : Config.grantTicks ≤ s.grantWait
      · exact .inr (.inr (.inl ⟨hc, rfl, by simp [hw, hq]⟩))
      · cases ht : Config.grantTaken s.free with
        | true => exact .inr (.inr (.inl ⟨hc, rfl, by simp [hq]⟩))
        | false => exact .inr (.inr (.inr ⟨hc, rfl, Nat.lt_of_not_le hw, by simp [hw]⟩))
  · have ho : s.pins.reset = true ∨ s.pins.clkin = false := by
      unfold State.clocked at hc
      cases hr : s.pins.reset <;> cases hk : s.pins.clkin <;> simp_all
    refine .inl ⟨ho, ?_⟩
    unfold State.idle State.whenClocked
    rcases ho with e | e <;> simp [e]

/-! ### The host bus (R157, R158) -/

/-- An access is its command, or a read that puts the location's contents on D7-D0. -/
theorem State.takeAccess_command {a : BusAccess} {c : Instr} (s : State) (h : accessCommand a = some c) :
    s.takeAccess a = exec c s := by
  cases a with
  | write loc v => obtain rfl := Option.some.inj h; rfl
  | read loc => simp only [State.takeAccess, h]

theorem State.takeAccess_plain_read {loc : Loc} (s : State) (h : accessCommand (.read loc) = none) :
    s.takeAccess (.read loc) = .next { s with window.dataOut := s.readLocation loc } := by
  simp only [State.takeAccess, h]

/-- A location's contents do not depend on the lines of the bus or on what the part drives. -/
@[simp] theorem State.readLocation_bus (s : State) (lines : BusPins) (driving : Bool) (loc : Loc) :
    State.readLocation { s with pins.bus := lines, window.driving := driving } loc = s.readLocation loc := rfl

end Sys2Proof.Machine
end

