-- ==== Sys2Proof/Laws/Ops.lean ====
section
/-! SUPPORT. For each shared operation of Machine/Ops.lean one lemma that says everything it does, in the descriptions
of Sys2Proof/Safety.lean. -/

namespace Sys2Proof.Machine

variable (s : State) (b : Branch)

/-! ### When an event is taken -/

theorem State.whenRunning_running {s : State} (h : s.running) (f : State → State) : s.whenRunning f = f s := by
  have h : s.pins.reset = false := h
  simp [State.whenRunning, h]

theorem State.whenRunning_held {s : State} (h : s.pins.reset = true) (f : State → State) : s.whenRunning f = s := by
  simp [State.whenRunning, h]

theorem State.whenClocked_clocked {s : State} (h : s.clocked) (f : State → State) : s.whenClocked f = f s := by
  obtain ⟨h, hc⟩ := h
  simp [State.whenClocked, h, hc]

theorem State.whenClocked_stopped {s : State} (h : s.pins.reset = true ∨ s.pins.clkin = false) (f : State → State) :
    s.whenClocked f = s := by
  rcases h with h | h <;> simp [State.whenClocked, h]

/-! ### Branches -/

theorem branchOf_eq_some {n : Nat} {b : Branch} : branchOf n = some b ↔ n = b.val + 1 := by
  unfold branchOf
  split
  · rename_i h
    simp only [Option.some.injEq, Fin.ext_iff]
    omega
  · simp only [reduceCtorEq, false_iff]
    have := b.isLt
    omega

theorem branchOf_eq_none {n : Nat} : branchOf n = none ↔ n = 0 ∨ 8 < n := by
  unfold branchOf
  split
  · simp only [reduceCtorEq, false_iff]; omega
  · simp only [true_iff]; omega

@[simp] theorem mem_allBranches : b ∈ allBranches := List.mem_finRange b

/-! ### Event log (R126, R129) -/

theorem EventLog.take_room {l : EventLog} (h : l.records.length < 16) (o : Offer) (now : Half) :
    l.take o now =
      { records := l.records ++
          [{ seq := l.seq, kind := o.kind, branch := o.branch, cause := o.cause, detail := o.detail, phase := o.phase,
             time := now, gap := if l.lost = 0 then none else some l.lost }],
        seq := l.seq + 1, lost := 0, idx := if l.records.isEmpty then 0 else l.idx, thr := l.thr } := by
  simp [EventLog.take, Config.logCapacity, h]

theorem EventLog.take_full {l : EventLog} (h : 16 ≤ l.records.length) (o : Offer) (now : Half) :
    l.take o now = { l with lost := if l.lost = 255 then 255 else l.lost + 1 } := by
  simp [EventLog.take, Config.logCapacity, Nat.not_lt.mpr h]

@[simp] theorem EventLog.take_thr (l : EventLog) (o : Offer) (now : Half) : (l.take o now).thr = l.thr := by
  unfold EventLog.take; split <;> rfl

/-! ### End of a flight (R104) -/

theorem LoadManager.endFlight_eq (l : LoadManager) (h : l.inFlight = some b) : l.endFlight = l.afterFlight b := by
  simp [LoadManager.endFlight, LoadManager.afterFlight, h, restoreSpacingTicks, Config.ticksPerMs]

theorem State.endFlightOf_eq : s.endFlightOf b = { s with load := s.load.afterFlight b } := by
  unfold State.endFlightOf
  split
  · rename_i h; rw [LoadManager.endFlight_eq b _ h]
  · rename_i h; simp [LoadManager.afterFlight, h]

@[simp] theorem State.br_endFlightOf (c : Branch) : (s.endFlightOf b).br c = s.br c := by
  rw [State.endFlightOf_eq]; rfl

/-! ### Trips (R55 to R59) -/

theorem deadTicks_eq (p : Profile) (n : Nat) : deadTicks p n = deadTime p n := by
  simp only [deadTicks, deadTime, Config.ticksPerMs]
  split <;> simp [*]

/-- The state that a phase names. -/
def Phase.state : Phase → BranchState
  | .inrush => .inrush
  | .on => .on

theorem BranchRec.tripped_eq {r : BranchRec} {ph : Phase} (h : r.state = ph.state) (cause : TripCause) :
    r.tripped cause =
      (let left := if ph = .inrush then r.withoutInrushTimers else r.withoutOnTimers
      if r.attempts < r.profile.budget.toNat then
        { left with state := .dead, attempts := r.attempts + 1, lastCause := some cause,
                    dead := some (deadTime r.profile (r.attempts + 1)) }
      else { left with state := .lockout, lastCause := some cause }) := by
  cases ph <;> by_cases hb : r.attempts < r.profile.budget.toNat <;>
    simp [BranchRec.tripped, BranchRec.moveTo, BranchRec.cancelTimers, h, Phase.state, hb,
      BranchRec.withoutInrushTimers, BranchRec.withoutOnTimers, deadTicks_eq]

theorem Digest.notice_eq (d : Digest) :
    d.notice b = { trips := d.trips.set b true, first := if d.first = none then some b else d.first } := by
  cases h : d.first <;> simp [Digest.notice, h]

theorem State.takeTrip_effect {s : State} {b : Branch} {ph : Phase} (h : (s.br b).state = ph.state)
    (cause : TripCause) : TripEffect s (s.takeTrip b cause ph) b cause ph := by
  by_cases hb : (s.br b).attempts < (s.br b).profile.budget.toNat <;> cases ph <;>
    simp [TripEffect, State.takeTrip, State.endFlightOf_eq, BranchRec.tripped_eq h, hb, tripOffer, State.latch,
      PendingSet.add, State.offer, State.setBr, State.releaseSlot, Digest.notice_eq]

/-! ### Closing a branch (R36, R40, R45, R47, R48, R63) -/

theorem BranchRec.moveTo_on_eq {r : BranchRec} (h : r.state = .inrush) :
    (r.moveTo .on).startSettle =
      { r.withoutInrushTimers with
        state := .on, settle := if 0 < r.attempts then some (r.profile.settle.toNat * 100000) else r.settle } := by
  by_cases ha : 0 < r.attempts <;>
    simp [BranchRec.startSettle, BranchRec.moveTo, BranchRec.cancelTimers, h, ha, BranchRec.withoutInrushTimers,
      settleTicks, Config.ticksPerMs]

/-- An overcurrent in ON: a trip at once with OCQUAL 0, else the qualify timer. -/
theorem State.overcurrent_effect {s : State} {b : Branch} (h : (s.br b).state = .on) :
    ((s.br b).profile.ocqual = 0 → TripEffect s (s.overcurrent b) b .oc .on)
      ∧ ((s.br b).profile.ocqual ≠ 0 →
        s.overcurrent b =
          { s with branches := s.branches.set b
                      { s.br b with ocQualify := some ((s.br b).profile.ocqual.toNat * 4) } }) := by
  constructor <;> intro hq <;> simp only [State.overcurrent, hq, if_true, if_false]
  · exact State.takeTrip_effect h .oc
  · rfl

theorem State.complete_effect {s : State} {b : Branch} (h : (s.br b).state = .inrush) :
    CompletionEffect s (s.complete b) b := by
  let on := { (s.br b).withoutInrushTimers with
              state := BranchState.on
              settle := if 0 < (s.br b).attempts then some ((s.br b).profile.settle.toNat * 100000)
                else (s.br b).settle }
  let m : State := { s with branches := s.branches.set b on, arbiter.inrushCount := s.arbiter.inrushCount - 1,
                            load := s.load.afterFlight b }
  have hm : s.complete b = m.examineAtOn b := by
    simp only [State.complete, State.endFlightOf_eq, State.updBr, State.setBr, State.releaseSlot,
      BranchRec.moveTo_on_eq h]
    rfl
  have hr : m.br b = on := by simpa using State.br_set s b on m rfl b
  have hs : (m.br b).state = .on := by rw [hr]
  rw [hm]
  unfold CompletionEffect State.examineAtOn
  have hsc : (m.br b).scLevel = (s.br b).scLevel := by rw [hr]; rfl
  have hoc : (m.br b).ocLevel = (s.br b).ocLevel := by rw [hr]; rfl
  have hq : (m.br b).profile = (s.br b).profile := by rw [hr]; rfl
  have ho := State.overcurrent_effect hs
  rw [hsc, hoc]
  rw [hq] at ho
  cases h1 : (s.br b).scLevel with
  | true => simpa [h1] using State.takeTrip_effect (ph := .on) hs .sc
  | false =>
    cases h2 : (s.br b).ocLevel with
    | false => simp only [h1, h2, Bool.false_eq_true, if_false, if_true]; rfl
    | true =>
      by_cases h3 : (s.br b).profile.ocqual = 0
      · simp only [h1, h2, h3, Bool.false_eq_true, if_false, if_true, Bool.true_eq_false]
        exact ho.1 h3
      · simp only [h1, h2, h3, Bool.false_eq_true, if_false, if_true, Bool.true_eq_false, ho.2 h3]
        simp only [hr, m, Vector.set_set]
        rfl

/-- The entry to INRUSH with SCn# released starts the blanking and rise timers (R40). -/
theorem State.enterInrush_released {s : State} {b : Branch} (h : (s.br b).state = .queued)
    (hs : (s.br b).scLevel = false) :
    s.enterInrush b =
      { s with branches := s.branches.set b
                { s.br b with
                  state := .inrush, blanking := some ((s.br b).profile.blank.toNat * 1000)
                  rise := some ((s.br b).profile.rise.toNat * 1000) } } := by
  simp [State.enterInrush, BranchRec.moveTo, BranchRec.cancelTimers, h, hs, State.setBr, blankingTicks, riseTicks,
    Config.ticksPerMs]

/-- The entry to INRUSH with SCn# asserted is a trip at once (R36). -/
theorem State.enterInrush_asserted {s : State} {b : Branch} (h : (s.br b).state = .queued)
    (hs : (s.br b).scLevel = true) :
    TripEffect { s with branches := s.branches.set b { s.br b with state := .inrush } } (s.enterInrush b) b .sc
      .inrush := by
  have e : s.enterInrush b =
      State.takeTrip { s with branches := s.branches.set b { s.br b with state := .inrush } } b .sc .inrush := by
    simp [State.enterInrush, BranchRec.moveTo, BranchRec.cancelTimers, h, hs, State.setBr]
  rw [e]
  refine State.takeTrip_effect (ph := .inrush) ?_ .sc
  have := State.br_set s b { s.br b with state := .inrush }
    { s with branches := s.branches.set b { s.br b with state := .inrush } } rfl b
  simp [this, Phase.state]

/-! ### Load manager (R89 to R105) -/

/-- A shed step with a victim and room on the stack pushes it (R98). -/
theorem State.shedStep_room {s : State} {v : Branch} (h : s.victim = some v) (hv : (s.br v).state = .on)
    (hr : s.load.stack.length < 4) :
    s.shedStep =
      { s with
        branches := s.branches.set v { (s.br v).withoutOnTimers with state := .shed }
        load.stack := v :: s.load.stack
        log := s.log.take
          { kind := .shed, branch := some v, cause := none, detail := s.load.stack.length + 1, phase := none }
          s.time.ms } := by
  have : ¬4 ≤ s.load.stack.length := by omega
  simp [State.shedStep, h, State.shedVictim, Config.stackCapacity, this, State.updBr, State.setBr, BranchRec.moveTo,
    BranchRec.cancelTimers, hv, BranchRec.withoutOnTimers, State.offer]

/-- A shed step without a victim reports exhaustion once an episode (R100). -/
theorem State.shedStep_exhausted {s : State} (h : s.victim = none) :
    s.shedStep =
      if s.load.exhausted then s
      else
        { s with
          load.exhausted := true, irq.pending.shedLoss := true
          log := s.log.take { kind := .exhausted, branch := none, cause := none, detail := 0, phase := none }
            s.time.ms } := by
  simp [State.shedStep, h, State.exhaust, State.latch, PendingSet.add, State.offer]

/-- A shed step onto a full stack drops the bottom entry to OFF (R99). -/
theorem State.shedStep_full {s : State} {v d : Branch} {init : List Branch} (h : s.victim = some v)
    (hv : (s.br v).state = .on) (hs : s.load.stack = init ++ [d]) (hi : init.length = 3)
    (hd : (s.br d).state = .shed) :
    s.shedStep =
      { s with
        branches := (s.branches.set v { (s.br v).withoutOnTimers with state := .shed }).set d
          { s.br d with state := .off, attempts := 0 }
        load.stack := v :: init
        irq.pending.shedLoss := true
        log := (s.log.take { kind := .shed, branch := some v, cause := none, detail := 4, phase := none }
            s.time.ms).take
          { kind := .drop, branch := some d, cause := none, detail := 0, phase := none } s.time.ms } := by
  have hne : v.val ≠ d.val := fun e => by rw [← Fin.ext e, hv] at hd; cases hd
  simp only [State.br, Fin.getElem_fin] at hv hd
  simp [State.shedStep, h, State.shedVictim, Config.stackCapacity, hs, hi, State.updBr, State.setBr, BranchRec.moveTo,
    BranchRec.toOff, BranchRec.cancelTimers, hv, hd, BranchRec.withoutOnTimers, State.offer, State.latch,
    PendingSet.add, State.br, hne]

/-- The shed step in the manual's terms, given that the victim is the manual's (R97). -/
theorem State.shedStep_effect {s : State} (h : ∀ v, s.victim = some v ↔ IsVictim s v) :
    ShedStepEffect s s.shedStep := by
  have none_of : (∀ v, ¬IsVictim s v) → s.victim = none := fun hn =>
    Option.eq_none_iff_forall_ne_some.mpr fun v e => hn v ((h v).mp e)
  refine ⟨fun v hv hl => ?_, fun v init d hv hs hi hd => ?_, fun hn he => ?_, fun hn he => ?_⟩
  · exact State.shedStep_room ((h v).mpr hv) hv.1 hl
  · exact State.shedStep_full ((h v).mpr hv) hv.1 hs hi hd
  · rw [State.shedStep_exhausted (none_of hn), he]; rfl
  · rw [State.shedStep_exhausted (none_of hn), he]; rfl

/-- The recall (R105). -/
theorem State.recall_effect (s : State) : RecallEffect s s.recall := by
  refine ⟨fun h => ?_, fun b front back h hb hq hf hk => ?_, fun b h hb => ?_⟩
  · simp [State.recall, h]
  · simp only [State.br, Fin.getElem_fin] at hb
    simp [State.recall, h, State.updBr, State.setBr, State.leaveQueue, hq, filter_ne_split hf hk,
      BranchRec.moveTo, BranchRec.cancelTimers, State.offer, State.br, hb]
  · have hb' : (State.br { s with load.spacingTimer := none, load.inFlight := none } b).state ≠ .queued := hb
    simp [State.recall, h, hb']

@[simp] theorem State.recall_shedivl (s : State) : s.recall.load.shedivl = s.load.shedivl := by
  unfold State.recall
  cases s.load.inFlight with
  | none => rfl
  | some b => dsimp only; split <;> rfl

/-- A rise of qualified stress, given that the victim of any state is the manual's (R89, R91, R97, R105). -/
theorem State.qualifiedRise_effect (h : ∀ (s : State) v, s.victim = some v ↔ IsVictim s v) (s : State) :
    RiseEffect s s.qualifiedRise := by
  have shed : ∀ t : State, ShedStepEffect t t.shedStep := fun t => State.shedStep_effect (h t)
  unfold RiseEffect State.qualifiedRise
  cases hm : s.load.mode with
  | calm =>
    simpa [hm, State.startShedding, State.startShedTimer, shedIntervalTicks, Config.ticksPerMs, State.latch,
      PendingSet.add] using shed _
  | shedding => simp [hm, State.latch, PendingSet.add]
  | hold =>
    simpa [hm, State.startShedding, State.startShedTimer, shedIntervalTicks, Config.ticksPerMs, State.latch,
      PendingSet.add] using shed _
  | restoring =>
    refine ⟨_, State.recall_effect _, ?_⟩
    have h := shed
      { (State.recall { s with irq.pending.stress := true, load.qualified := true }) with
        load.mode := .shedding, load.shedTimer := some (s.load.shedivl.toNat * 10000) }
    simpa [hm, State.startShedding, State.startShedTimer, shedIntervalTicks, Config.ticksPerMs, State.latch,
      PendingSet.add] using h

/-- The restore step (R102). -/
theorem State.restoreStep_effect {s : State} {b : Branch} {rest front back : List Branch}
    (h : s.load.stack = b :: rest) (hb : (s.br b).state = .shed) (hq : QueueSplit s b front back) :
    RestoreEffect s ({ s with load.mode := .restoring } : State).restoreStep b rest front back := by
  obtain ⟨hq, hf, hk⟩ := hq
  have hi := insertByPriority_split (prio := s.priority) hf hk
  simp only [State.br, Fin.getElem_fin] at hb
  rw [← hq] at hi
  simp [RestoreEffect, State.restoreStep, h, State.joinQueue, State.updBr, State.setBr, State.offer,
    BranchRec.moveTo, BranchRec.cancelTimers, State.br, hb]
  exact hi

/-- Where the restore goes on (R93, R104). -/
theorem State.restoreOrCalm_empty {s : State} (h : s.load.stack = []) :
    s.restoreOrCalm = { s with load.mode := .calm } := by
  simp [State.restoreOrCalm, h]

theorem State.restoreOrCalm_effect {s : State} {b : Branch} {rest front back : List Branch}
    (h : s.load.stack = b :: rest) (hb : (s.br b).state = .shed) (hq : QueueSplit s b front back) :
    RestoreEffect s s.restoreOrCalm b rest front back := by
  have e : s.restoreOrCalm = State.restoreStep { s with load.mode := .restoring } := by
    simp [State.restoreOrCalm, h]
  rw [e]
  exact State.restoreStep_effect h hb hq

/-- A fall of qualified stress (R89, R92). -/
theorem State.qualifiedFall_eq (s : State) :
    s.qualifiedFall =
      if s.load.mode = .shedding then
        { s with
          load.qualified := false, load.mode := .hold, load.shedTimer := none, load.exhausted := false
          load.holdTimer := some (s.load.holdTime.toNat * 100000) }
      else { s with load.qualified := false } := by
  cases h : s.load.mode <;> simp [State.qualifiedFall, h, holdTicks, Config.ticksPerMs]

/-! ### All-off (R112, R113) -/

theorem BranchRec.toOff_eq (r : BranchRec) : r.toOff = r.intoOff := by
  cases h : r.state <;>
    simp [BranchRec.toOff, BranchRec.moveTo, BranchRec.cancelTimers, BranchRec.intoOff, h,
      BranchRec.withoutInrushTimers, BranchRec.withoutOnTimers]

theorem State.activeCount_eq (s : State) :
    s.activeCount =
      s.countIn .queued + s.countIn .inrush + s.countIn .on + s.countIn .dead + s.countIn .shed := by
  unfold State.activeCount State.countIn
  induction allBranches with
  | nil => rfl
  | cons c l ih =>
    simp only [List.countP_cons, ih]
    cases (s.br c).state <;> simp [BranchState.active] <;> omega

theorem State.takeAllOff_effect (s : State) (cause : RecordCause) : AllOffEffect s (s.takeAllOff cause) cause := by
  refine ⟨fun b => ?_, rfl, rfl, ?_, rfl, rfl, rfl, rfl, rfl, rfl, rfl, rfl⟩
  · rw [State.br_takeAllOff, BranchRec.toOff_eq]
    cases (s.br b).state <;> simp [BranchState.active]
  simp [State.takeAllOff, State.offer, State.activeCount_eq, State.mapBr]

/-! ### Signature engine (R152 to R154) -/

theorem State.endSignature_eq (s : State) (st : SignState) :
    s.endSignature st =
      { s with sig := { s.sig with state := st, progress := none, timer := none }, irq.pending.sign := true } := rfl

end Sys2Proof.Machine
end

