-- ==== Sys2Proof/Tests/Slice0.lean ====
section
/-! SUPPORT. Tests with results from the manual's own tables and worked examples (each names its section), the smoke tests
of WellFormed and Decode, and for every statement with hypotheses a witness that meets them, clause by clause. -/

namespace Sys2Proof.Tests

open Sys2Proof.Machine

/-! ### Small states -/

/-- The next state of a command. -/
def after (c : Instr) (s : State) : State :=
  match exec c s with
  | .next t => t
  | .fault _ => s
  | .refused _ => s

/-- The commands in order. -/
def afterAll (l : List Instr) (s : State) : State := l.foldl (fun s c => after c s) s

/-- A branch in a state, all else at its default. -/
def rec (st : BranchState) : BranchRec := { BranchRec.default with state := st }

/-- Reset, with the record of one branch replaced. -/
def one (b : Branch) (r : BranchRec) : State := State.reset.setBr b r

/-- The state with ARG0 and ARG1. -/
def args (s : State) (a0 a1 : Byte) : State := { s with window.arg0 := a0, window.arg1 := a1 }

/-- A busy part: branch 1 ON after a reclose, 2 in INRUSH, 3 QUEUED and in flight, 4 DEAD, 5 LOCKOUT, 6 SHED; one record
in the log; branch 4 has tripped; a signature over branches 2 to 4 runs. -/
def busy : State :=
  { State.reset with
    branches := #v[
      { rec .on with profile.budget := 2, attempts := 1, settle := some 5, pgLevel := true },
      { rec .inrush with blanking := some 3, rise := some 5 },
      { rec .queued with profile.priority := 3 },
      { rec .dead with profile.budget := 2, attempts := 1, dead := some 9, lastCause := some .sc },
      { rec .lockout with lastCause := some .oc },
      rec .shed, rec .off, rec .off]
    pins.pg := #v[true, false, false, false, false, false, false, false]
    arbiter.queue := [2]
    arbiter.inrushCount := 1
    load := { LoadManager.default with mode := .restoring, stack := [5], inFlight := some 2 }
    log.records := [{ seq := 255, kind := .trip, branch := some 3, cause := some (.trip .sc), detail := 1,
                      phase := some .on, time := 7, gap := none }]
    digest := { trips := #v[false, false, false, true, false, false, false, false], first := some 3 }
    sig := { state := .running, first := 1, last := 3, progress := some 2, crc := 7, timer := some 1 } }

/-! ### WellFormed: an ill-formed term for each check -/

theorem test_wellFormed_refuses_close_as_unknown : (Instr.unknownCommand 0x01).wellFormed = false := by decide
theorem test_wellFormed_takes_unknown_code : (Instr.unknownCommand 0x07).wellFormed = true := by decide
theorem test_wellFormed_refuses_prescale_as_register : (Instr.registerWrite 0x10 8).wellFormed = false := by decide
theorem test_wellFormed_takes_arg0_write : (Instr.registerWrite 0x01 8).wellFormed = true := by decide

/-! ### Decode: the locations of section 11.2 and the strobes of section 11.1 -/

theorem test_decode_no_table_bits : decodeTableWord 8 0x01 = none := rfl
theorem test_withFetchWord_unchanged : State.reset.withFetchWord 8 0x01 = State.reset := rfl
theorem test_write_01_to_cmd_is_close : accessCommand (.write 0x00 0x01) = some .close := by decide
theorem test_write_00_to_cmd_is_unknown : accessCommand (.write 0x00 0x00) = some (.unknownCommand 0) := by decide
theorem test_write_0B_is_settle : accessCommand (.write 0x0B 9) = some (.profileWrite .settle 9) := by decide
theorem test_write_0C_is_register : accessCommand (.write 0x0C 9) = some (.registerWrite 0x0C 9) := by decide
theorem test_read_20_is_logdata : accessCommand (.read 0x20) = some .logdataRead := by decide
theorem test_read_1F_has_no_row : accessCommand (.read 0x1F) = none := by decide

/-- A read strobe while WR# is asserted is not a read (R157). -/
theorem test_strobe_read_ignored_under_write :
    BusPins.accessTaken ⟨true, false, true, 0x29, 0⟩ ⟨true, true, true, 0x29, 0⟩ = none := by decide

/-- The next state of a change of the bus lines. -/
def afterLines (l : List BusPins) (s : State) : State :=
  l.foldl (fun s b => match s.takeBusChange b with | .next t => t | .fault _ => s | .refused _ => s) s

/-- A read of BSTATE of a branch in ON with one reclose used puts 13h on D7-D0; a change of A5-A0 and an OPEN taken
while RD# stays asserted leave it there, and the release of RD# takes it away (R157). -/
theorem test_read_data_held :
    (let s := afterLines [⟨true, false, false, 0x0C, 0⟩, ⟨true, true, false, 0x0C, 0⟩] { busy with window.arg0 := 1 }
     let t := after .openBranch (afterLines [⟨true, true, false, 0x0D, 0⟩] s)
     let u := afterLines [⟨true, false, false, 0x0D, 0⟩] t
     (s.dataBus, t.dataBus, t.readLocation 0x0C, u.dataBus)) = (some 0x13, some 0x13, 0x00, none) := by decide

/-- An assertion of WR# ends the drive of an earlier read, and its release writes D7-D0 (R158). -/
theorem test_write_over_read :
    (let s := afterLines [⟨true, true, false, 0x01, 0⟩, ⟨true, true, true, 0x01, 0x55⟩] State.reset
     (s.dataBus, s.window.arg0, (afterLines [⟨true, true, false, 0x01, 0x55⟩] s).window.arg0)) = (none, 0, 0x55) := by
  decide

/-- A grant is due and has seen as many tick ends as log 4 allows: it is taken at once (R79). -/
def overdue : State := { one 0 (rec .queued) with arbiter.queue := [0], grantWait := 2 }

theorem test_overdue_grant_is_taken : step overdue = .next { overdue with pending := [.grant], free := 1, grantWait := 0 } :=
  rfl

/-! ### The worked examples of the manual -/

/-- Section 1.4, the counter across a carry: MSLO at 01FFh returns FFh and holds 01h, which MSHI still returns after the
boundary; the next MSLO returns 00h and holds 02h. -/
theorem test_mslo_across_a_carry :
    (let s := afterAll [.msloRead] { State.reset with time.ms := 0x01FF }
     let t := afterAll [.millisecondBoundary] s
     let u := afterAll [.msloRead] t
     (s.window.dataOut, t.readLocation 0x2A, u.window.dataOut, u.readLocation 0x2A))
      = (0xFF, 0x01, 0x00, 0x02) := by decide

/-- Section 1.4: the counter wraps from 65535 (R2). -/
theorem test_millisecond_wraps :
    (after .millisecondBoundary { State.reset with time.ms := 0xFFFF, time.subMs := 999 }).time.ms = 0 := by decide

/-- Section 2.8, steps 1 to 6: LOCKED while DEAD, OPEN to OFF with the cause kept, RANGE, OK, CLOSE between 1 and 6. -/
def takenOut : State :=
  { (((one 0 { rec .queued with profile.priority := 0 }).setBr 5 { rec .queued with profile.priority := 3 }).setBr 3
      { rec .dead with
        profile.priority := 2, profile.budget := 2, attempts := 1, lastCause := some .oc, dead := some 1000000 }) with
    arbiter.queue := [0, 5], window.bptr := 3, window.arg0 := 4 }

theorem test_profile_write_locked_in_dead :
    (after (.profileWrite .rise 120) takenOut).window.wstat = .locked
      ∧ ((after (.profileWrite .rise 120) takenOut).br 3).profile.rise = 50 := by decide
theorem test_open_of_dead_keeps_cause :
    (let r := (after .openBranch takenOut).br 3; (r.state, r.attempts, r.lastCause, r.dead))
      = (.off, 0, some .oc, none) := by decide
theorem test_profile_write_range_then_ok :
    (let s := after .openBranch takenOut
     ((after (.profileWrite .rise 0) s).window.wstat, ((after (.profileWrite .rise 120) s).br 3).profile.rise))
      = (.range, 120) := by decide
theorem test_close_joins_between : (afterAll [.openBranch, .close] takenOut).arbiter.queue = [0, 3, 5] := by decide

/-- Section 3.5, a close and a nuisance overcurrent on branch 2: the assertion of PG2 in blanking is recorded only, the
blanking expiry completes; a release ends the qualify time of 100 us, which an assertion in ON had started. -/
def closing : State := { one 1 { rec .inrush with blanking := some 20000, rise := some 50000 } with
  arbiter.inrushCount := 1 }

theorem test_pg_recorded_in_blanking : ((after (.pgAssertion 1) closing).br 1).state = .inrush := by decide
theorem test_blanking_expiry_completes :
    (let t := afterAll [.pgAssertion 1, .blankingExpiry 1] closing
     ((t.br 1).state, t.arbiter.inrushCount, (t.br 1).rise, (t.br 1).settle)) = (.on, 0, none, none) := by decide
theorem test_oc_qualify_is_100_us :
    ((afterAll [.pgAssertion 1, .blankingExpiry 1, .ocAssertion 1] closing).br 1).ocQualify = some 100 := by decide
theorem test_oc_release_cancels :
    (let t := afterAll [.pgAssertion 1, .blankingExpiry 1, .ocAssertion 1, .ocRelease 1, .ocQualifyExpiry 1] closing
     ((t.br 1).state, t.log.records.length)) = (.on, 0) := by decide
theorem test_oc_expiry_trips :
    (let t := afterAll [.pgAssertion 1, .blankingExpiry 1, .ocAssertion 1, .ocQualifyExpiry 1] closing
     ((t.br 1).state, (t.br 1).lastCause, t.log.records.map (·.phase))) = (.lockout, some .oc, [some .on]) := by decide

/-- Section 3.5, a rise deadline shorter than blanking: a met deadline leaves the branch in INRUSH, a missed one trips. -/
theorem test_rise_expiry_met : ((afterAll [.pgAssertion 1, .riseExpiry 1] closing).br 1).state = .inrush := by decide
theorem test_rise_expiry_missed : ((after (.riseExpiry 1) closing).br 1).lastCause = some .norise := by decide
theorem test_pg_release_waits_after_blanking :
    ((afterAll [.pgAssertion 1, .pgRelease 1, .blankingExpiry 1] closing).br 1).state = .inrush
      ∧ ((afterAll [.blankingExpiry 1, .pgAssertion 1] closing).br 1).state = .on := by decide

/-- Section 3.7: a release of PGn in ON starts PGQUAL x 1 ms, whose expiry trips (R50, R51). -/
theorem test_pg_loss :
    ((after (.pgRelease 0) busy).br 0).pgLoss = some 5000
      ∧ ((afterAll [.pgRelease 0, .pgLossExpiry 0] busy).br 0).lastCause = some .pgloss := by decide

/-- Section 4.6, a persistent short on branch 3: dead times 500, 1000 and 2000 ms, then LOCKOUT with detail 3; ON3 never
asserted, the inrush count back at 0. -/
def short : State :=
  { one 2 { rec .off with
      profile.priority := 2, profile.budget := 3, profile.deadbase := 50, profile.escalation := true, scLevel := true }
    with window.arg0 := 3, time.ms := 1000 }

/-- The same branch in the queue again, with a number of recloses used. -/
def recloses (attempts : Nat) : State :=
  { short.updBr 2 (fun r => { r with state := .queued, attempts := attempts }) with arbiter.queue := [2] }

theorem test_short_first_dead_time :
    (let t := afterAll [.close, .grant] short
     ((t.br 2).state, (t.br 2).dead, t.onOut 2, t.arbiter.inrushCount, t.arbiter.staggerTimer))
      = (.dead, some 500000, false, 0, some 10000) := by decide
theorem test_short_third_dead_time : ((after .grant (recloses 2)).br 2).dead = some 2000000 := by decide
theorem test_short_lockout :
    (let t := after .grant (recloses 3)
     ((t.br 2).state, (t.br 2).attempts, t.log.records.map (·.detail), t.log.records.map (·.kind), t.digest.code))
      = (.lockout, 3, [3], [.lockout], 3) := by decide
theorem test_dead_expiry_queues : (after (.deadExpiry 2) (after .grant (recloses 2))).arbiter.queue = [2] := by decide
theorem test_rearm_of_lockout :
    (let t := after .rearm (args (one 2 { rec .lockout with lastCause := some .sc, scLevel := true }) 3 0)
     ((t.br 2).state, (t.br 2).lastCause, t.window.result)) = (.off, some .sc, .done) := by decide

/-- Section 4.7: the settle expiry returns the count to 0. -/
theorem test_settle_expiry : ((after (.settleExpiry 0) busy).br 0).attempts = 0 := by decide

/-- Section 5.6: one restart queues branches 1 to 5 of PRIORITY 2, 0, 2, 5 and 0 as 2, 5, 1, 3, 4, with detail 5. -/
def autoStart (p : Byte) : BranchRec := { rec .off with profile.priority := p, profile.autoStart := true }

theorem test_restart_queue_order :
    (let s := ((((one 0 (autoStart 2)).setBr 1 (autoStart 0)).setBr 2 (autoStart 2)).setBr 3 (autoStart 5)).setBr 4
      (autoStart 0)
     let t := after .restart s
     (t.arbiter.queue, t.log.records.map (·.detail), t.window.result)) = ([1, 4, 0, 2, 3], [5], .done) := by decide

/-- Section 6.9: the victim order 6, then 4 before 3 at equal PRIORITY; on a full stack branch 5 is pushed and 6
dropped. -/
def onWith (p : Byte) : BranchRec := { rec .on with profile.priority := p, pgLevel := true }

def overload : State :=
  { ((one 1 (onWith 3)).setBr 2 (onWith 5)).setBr 3 (onWith 5) with
    load := { LoadManager.default with supovl := true, qualifyTimer := some 0 } }

theorem test_shed_larger_number_first :
    (let t := after .stressQualifyExpiry overload
     (t.load.stack, t.load.mode, t.irq.pending.stress, t.load.shedTimer)) = ([3], .shedding, true, some 200000) := by
  decide
theorem test_shed_next_victim : (afterAll [.stressQualifyExpiry, .shedIntervalExpiry] overload).load.stack = [2, 3] := by
  decide
/-- Section 6.9 at 20802: four on the stack, branch 6 at the bottom, branch 5 the next victim. -/
def fullStack : State :=
  { ((((one 4 (onWith 1)).setBr 1 (rec .shed)).setBr 2 (rec .shed)).setBr 3 (rec .shed)).setBr 5 (rec .shed) with
    load := { LoadManager.default with
              supovl := true, mode := .shedding, qualified := true, stack := [1, 2, 3, 5], shedTimer := some 0 } }

theorem test_shed_drop_from_full_stack :
    (let t := after .shedIntervalExpiry fullStack
     (t.load.stack, (t.br 5).state, t.log.records.map (·.kind), t.log.records.map (·.detail), t.irq.pending.shedLoss))
      = ([4, 1, 2, 3], .off, [.shed, .drop], [4, 0], true) := by decide
theorem test_stress_assertion_starts_2_ms :
    (after (.stressInputAssertion .buslo) State.reset).load.qualifyTimer = some 2000 := by decide
theorem test_stress_release_enters_hold :
    (let s := { State.reset with
                pins.supovl := true
                load := { LoadManager.default with
                          supovl := true, qualified := true, mode := .shedding, shedTimer := some 9, holdTime := 2 } }
     let t := after (.stressInputRelease .supovl) s
     (t.load.mode, t.load.holdTimer, t.load.shedTimer, t.load.qualified)) = (.hold, some 200000, none, false) := by decide
theorem test_hold_expiry_restores :
    (let s := { (one 4 (rec .shed)).setBr 1 (rec .shed) with
                load := { LoadManager.default with mode := .hold, holdTimer := some 0, stack := [4, 1] } }
     let t := after .holdExpiry s
     (t.load.stack, t.load.inFlight, t.arbiter.queue, t.log.records.map (·.detail))) = ([1], some 4, [4], [1]) := by decide
theorem test_spacing_expiry_ends_in_calm :
    (after .restoreSpacingExpiry
      { State.reset with load := { LoadManager.default with mode := .restoring, spacingTimer := some 0 } }).load.mode
      = .calm := by decide
theorem test_rise_recalls_the_flight :
    (let t := after .stressQualifyExpiry
       { busy with load := { busy.load with supovl := true, qualifyTimer := some 0 } }
     (t.load.stack, t.arbiter.queue, t.log.records.map (·.kind))) = ([0, 2, 5], [], [.trip, .recall, .shed]) := by decide

/-- Section 7.7: the all-off counts six branches, leaves LOCKOUT and OFF, and under ESTOP# CLOSE and RESTART are HELD. -/
def emergency : State :=
  { (((((((one 0 (rec .on)).setBr 1 (rec .inrush)).setBr 2 (rec .queued)).setBr 3
      { rec .dead with profile.budget := 2, attempts := 1, lastCause := some .oc, dead := some 4 }).setBr 4
      { rec .lockout with profile.budget := 2, attempts := 2, lastCause := some .norise }).setBr 5 (rec .shed)).setBr 7
      (rec .shed)) with
    arbiter.queue := [2], arbiter.inrushCount := 1
    load := { LoadManager.default with mode := .hold, stack := [7, 5], holdTimer := some 8 } }

theorem test_estop_all_off :
    (let t := after .estopAssertion emergency
     (t.log.records.map (·.detail), (t.br 4).state, (t.br 3).lastCause, t.load.mode, t.load.stack, t.arbiter.queue))
      = ([6], .lockout, some .oc, .calm, [], []) := by decide
theorem test_estop_holds_close_and_restart :
    (let t := args (after .estopAssertion emergency) 1 0
     ((after .close t).window.result, (after .restart t).window.result)) = (.held, .held) := by decide
theorem test_allOff_under_estop :
    (after .allOff (after .estopAssertion emergency)).log.records.map (·.detail) = [6, 0] := by decide
theorem test_estop_release_brings_nothing_back :
    (let t := afterAll [.estopAssertion, .estopRelease] emergency; (t.estop, t.arbiter.queue, t.load.stack))
      = (false, [], []) := by decide

/-- Section 7.5: RESET# opens every output at its assertion, and an ESTOP# found asserted at the release is recorded
without a record (R121, R122). -/
theorem test_reset_assertion_opens : (after .resetAssertion busy).onOut 0 = false := by decide
theorem test_hardware_reset_takes_estop :
    (let t := after .hardwareReset { State.reset with pins.reset := true, pins.estop := true, pins.buslo := true }
     (t.estop, t.log.records, t.load.qualifyTimer, t.pins.reset)) = (true, [], some 2000, false) := by decide

/-- Section 8.7: the RESTART record with sequence 56 and gap 3 reads 56, 8, 0, 0, 2, 0, 224, 121, 3 through LOGDATA. -/
def frame : State :=
  { State.reset with
    log.records := [{ seq := 56, kind := .restart, branch := none, cause := none, detail := 2, phase := none,
                      time := 31200, gap := some 3 }] }

theorem test_head_frame :
    ((List.finRange 9).map fun i => (after .logdataRead { frame with log.idx := i }).window.dataOut)
      = [56, 8, 0, 0, 2, 0, 224, 121, 3] := by decide
theorem test_logdata_index_wraps : (after .logdataRead { frame with log.idx := 8 }).log.idx = 0 := by decide
theorem test_logAdv_empty : (after .logAdv State.reset).window.result = .wrongState := by decide
theorem test_logAdv_keeps_lost :
    (let t := after .logAdv { frame with log.lost := 3, log.idx := 4 }; (t.log.records.length, t.log.lost, t.log.idx))
      = (0, 3, 0) := by decide
theorem test_logClr_forgets : (after .logClr { frame with log.lost := 3 }).log.lost = 0 := by decide
theorem test_logthr_16_and_17 :
    ((after (.logthrWrite 16) State.reset).log.thr, (after (.logthrWrite 17) State.reset).window.wstat) = (16, .range) := by
  decide

/-- Section 9.5: digest code 15 with first-tripped branch 4 reads 4Fh; the acknowledge removes what it names; LOG keeps
INT# asserted. -/
def twoTrips : State :=
  { frame with
    digest := { trips := #v[false, false, false, true, false, false, true, false], first := some 3 }
    irq := { pending := { trip := true, lock := true, shedLoss := false, stress := false, sign := false },
             enable := { log := true, trip := true, lock := true, shedLoss := false, stress := false, sign := false } } }

theorem test_digest_reads : (twoTrips.readLocation 0x22, twoTrips.readLocation 0x23) = (0x4F, 0x48) := by decide
theorem test_digestClr : ((after .digestClr twoTrips).readLocation 0x22, (after .digestClr twoTrips).irq.pending.trip)
    = (0, true) := by decide
theorem test_acknowledge :
    (let t := after (.irqpendAcknowledge 0x06) twoTrips; (t.irq.pending.trip, t.irq.pending.lock, t.intOut))
      = (false, false, true) := by decide
theorem test_acknowledge_range : (after (.irqpendAcknowledge 0x42) twoTrips).irq.pending.trip = true := by decide
theorem test_irqen_write : (after (.irqenWrite 0x30) twoTrips).readLocation 0x28 = 0x30 := by decide

/-- Section 10.6: a range 6 + 5 - 1 is clamped at branch 8; a second SIGN gives BUSY; a write to branch 7 ends it STALE. -/
theorem test_sign_clamps :
    (let t := after .sign (args State.reset 6 5); (t.sig.first, t.sig.last, t.sig.progress, t.sig.crc, t.sig.timer))
      = (5, 7, some 5, 0xFFFF, some 16) := by decide
theorem test_sign_busy : (afterAll [.sign, .sign] (args State.reset 6 5)).window.result = .busy := by decide
theorem test_sign_staled_by_write :
    (let t := afterAll [.sign, .registerWrite 0x03 7, .profileWrite .blank 40] (args State.reset 6 5)
     (t.sig.state, t.sig.progress, t.irq.pending.sign, t.readLocation 0x24)) = (.stale, none, true, 3) := by decide
theorem test_signature_record_advances :
    (after .signatureRecordExpiry (after .sign (args State.reset 6 5))).sig.progress = some 6 := by
  set_option maxRecDepth 100000 in decide

/-- The check value of the CRC of R151 over the nine digits 1 to 9 (31h to 39h): 29B1h, the published one for the
polynomial 1021h from FFFFh without reversal or inversion. -/
theorem test_crc_check_value : ((List.range 9).map fun i => BitVec.ofNat 8 (0x31 + i)).foldl crcByte 0xFFFF = 0x29B1 := by
  set_option maxRecDepth 100000 in decide

/-- Section 11.5, the command transaction: RANGE, then BAD_ARG, DONE, UNKNOWN, READONLY, LOCKED. -/
theorem test_transaction_results :
    (let s2 := afterAll [.registerWrite 0x03 5] State.reset
     let s5 := afterAll [.close, .registerWrite 0x01 5, .close] s2
     let s8 := afterAll [.unknownCommand 0x07, .registerWrite 0x2C 0x33, .profileWrite .priority 3] s5
     ((after (.registerWrite 0x03 9) State.reset).window.wstat, (after .close s2).window.result, s5.window.result,
       s8.window.result, (after (.registerWrite 0x2C 0x33) s5).window.wstat, s8.window.wstat))
      = (.range, .badArg, .done, .unknown, .readonly, .locked) := by decide

/-- Sections 1.3 and 5.2: PRESCALE and SLOTS give RANGE before ACTIVE (R4, R76). -/
theorem test_prescale_refusals :
    ((after (.prescaleWrite 33) busy).window.wstat, (after (.prescaleWrite 32) busy).window.wstat,
      (after (.prescaleWrite 32) State.reset).time.prescale) = (.range, .active, 32) := by decide
theorem test_slots_refusals :
    ((after (.slotsWrite 4) busy).window.wstat, (after (.slotsWrite 3) busy).window.wstat,
      (after (.slotsWrite 3) State.reset).arbiter.slots) = (.range, .active, 3) := by decide

/-- Section 11.6: the packed locations of a busy part (BSTATE 13h, LMSTAT 03h, QSTAT 11h, SSTAT 31h, BPINS 0Ch). -/
theorem test_packed_reads :
    [0x0C, 0x19, 0x1A, 0x1B, 0x0E].map busy.readLocation = [0x13, 0x03, 0x11, 0x31, 0x0C] := by decide
theorem test_sc_release_is_level_only :
    ((after (.scRelease 1) { one 1 { rec .dead with scLevel := true, dead := some 4 } with
        pins.sc := Vector.replicate 8 true }).br 1) = { rec .dead with dead := some 4 } := by decide
theorem test_sc_assertion_in_off_is_recorded :
    ((after (.scAssertion 1) State.reset).br 1) = { rec .off with scLevel := true } := by decide

/-! ### Witnesses: states and operands that meet the hypotheses of each statement, clause by clause -/

theorem witness_IdleStepPassesOneClkinPeriod :
    (State.reset.pending = [] ∧ State.reset.clocked ∧ State.reset.grantCondition = false
      ∧ State.reset.time.divider + 1 < State.reset.time.tickLength)
    ∧ (let s := { State.reset with pins.clkin := false }; s.pending = [] ∧ (s.pins.reset = true ∨ s.pins.clkin = false))
    ∧ (let s := { one 0 (rec .queued) with arbiter.queue := [0] }
       s.pending = [] ∧ s.clocked ∧ s.grantCondition = true ∧ s.grantWait < Config.grantTicks
         ∧ s.time.divider + 1 < s.time.tickLength)
    ∧ (overdue.pending = [] ∧ overdue.clocked ∧ overdue.grantCondition = true
      ∧ Config.grantTicks ≤ overdue.grantWait) := by decide

theorem witness_TickEndCountsDownAndQueuesDueEvents :
    (let s := { State.reset with time.divider := 7 }
     s.pending = [] ∧ s.clocked ∧ s.grantCondition = false ∧ s.time.tickLength ≤ s.time.divider + 1
       ∧ s.time.subMs < 999)
    ∧ (let s := { State.reset with time.divider := 7, time.subMs := 999 }
       s.pending = [] ∧ s.clocked ∧ s.grantCondition = false ∧ s.time.tickLength ≤ s.time.divider + 1
         ∧ ¬s.time.subMs < 999)
    ∧ (let s := { one 0 (rec .queued) with arbiter.queue := [0], time.divider := 7 }
       s.pending = [] ∧ s.clocked ∧ s.time.tickLength ≤ s.time.divider + 1 ∧ s.grantCondition = true
         ∧ s.grantWait < Config.grantTicks) := by decide

theorem witness_BusAccessesAndCommandsAgree :
    (Instr.registerWrite 0x3F 0xFF).wellFormed = true
      ∧ busSpelling (.registerWrite 0x3F 0xFF) = some (.write 0x3F 0xFF)
      ∧ (Instr.unknownCommand 0x33).wellFormed = true ∧ busSpelling .msloRead = some (.read 0x29) := by decide

theorem witness_BusStrobesTakeOneAccess :
    (let b : BusPins := ⟨true, false, true, 0x3F, 0xFF⟩; let a : BusPins := ⟨true, false, false, 0x3F, 0xFF⟩
     b.wr = true ∧ a.wr = false ∧ a.cs = true)
    ∧ (let b : BusPins := ⟨true, false, false, 0, 0⟩; let a : BusPins := ⟨true, true, false, 0, 0⟩
       b.wr = false ∧ a.wr = false ∧ b.rd = false ∧ a.rd = true ∧ a.cs = true ∧ a.wr = false)
    ∧ ((⟨false, true, false, 0, 0⟩ : BusPins).cs = false ∧ (⟨true, true, true, 0, 0⟩ : BusPins).wr = true)
    ∧ (let s := { busy with pins.bus := ⟨true, false, false, 0x0C, 0⟩ }
       s.pins.bus.accessTaken ⟨true, true, false, 0x0C, 0⟩ = some (.read 0x0C)
         ∧ (0x0C : Loc).toNat ≠ 0x20 ∧ (0x0C : Loc).toNat ≠ 0x29
         ∧ s.pins.bus.accessTaken ⟨true, true, false, 0x29, 0⟩ = some (.read 0x29)
         ∧ accessCommand (.read 0x29) = some .msloRead)
    ∧ (let s := { busy with pins.bus := ⟨true, true, false, 0x0C, 0⟩ }
       s.pins.bus.rd = true ∧ s.pins.bus.wr = false ∧ s.pins.bus.accessTaken ⟨true, true, false, 0x0D, 0⟩ = none)
    ∧ (Instr.openBranch ≠ .msloRead ∧ Instr.openBranch ≠ .logdataRead) := by decide

theorem witness_BranchCommandsRefuseInOrder :
    ((args State.reset 0 0).running ∧ (args State.reset 0 0).window.arg0.toNat = 0)
    ∧ 8 < (args State.reset 9 0).window.arg0.toNat
    ∧ (let s := { args State.reset 8 0 with estop := true }
       s.running ∧ s.window.arg0.toNat = (7 : Branch).val + 1 ∧ s.estop = true)
    ∧ (let s := args busy 1 0
       s.running ∧ s.window.arg0.toNat = (0 : Branch).val + 1 ∧ s.estop = false ∧ (s.br 0).state ≠ .off
         ∧ (s.br 0).state ≠ .lockout)
    ∧ (let s := args busy 5 0; s.window.arg0.toNat = (4 : Branch).val + 1 ∧ (s.br 4).state = .lockout)
    ∧ (let s := args busy 8 0; s.window.arg0.toNat = (7 : Branch).val + 1 ∧ (s.br 7).state = .off) := by decide

theorem witness_CloseJoinsTheQueueByPriority :
    (let s := args State.reset 1 0
     s.running ∧ s.window.arg0.toNat = (0 : Branch).val + 1 ∧ s.estop = false ∧ (s.br 0).state = .off
       ∧ QueueSplit s 0 [] [])
    ∧ (let s := { args (((one 1 (rec .queued)).setBr 2 { rec .queued with profile.priority := 8 })) 8 0 with
                  arbiter.queue := [1, 2] }
       s.running ∧ s.window.arg0.toNat = (7 : Branch).val + 1 ∧ s.estop = false ∧ (s.br 7).state = .off
         ∧ QueueSplit s 7 [1] [2]) := by decide

theorem witness_OpenTakesBranchToOff :
    (let s := args busy 3 0
     s.running ∧ s.window.arg0.toNat = (2 : Branch).val + 1 ∧ (s.br 2).state = .queued
       ∧ s.arbiter.queue = [] ++ 2 :: [] ∧ (2 : Branch) ∉ ([] : List Branch))
    ∧ (let s := args busy 2 0; s.window.arg0.toNat = (1 : Branch).val + 1 ∧ (s.br 1).state = .inrush)
    ∧ (let s := args busy 1 0; s.window.arg0.toNat = (0 : Branch).val + 1 ∧ (s.br 0).state = .on)
    ∧ (let s := args busy 4 0; s.window.arg0.toNat = (3 : Branch).val + 1 ∧ (s.br 3).state = .dead)
    ∧ (let s := args busy 6 0
       s.window.arg0.toNat = (5 : Branch).val + 1 ∧ (s.br 5).state = .shed ∧ s.load.stack = [] ++ 5 :: []) := by decide

theorem witness_RearmLiftsTheLockout :
    (let s := args busy 5 0
     s.running ∧ s.window.arg0.toNat = (4 : Branch).val + 1 ∧ (s.br 4).state = .lockout) := by decide

theorem witness_AllOffTakesActiveBranchesToOff :
    (busy.running ∧ busy.pins.estop = false)
    ∧ (let s := { State.reset with estop := true, pins.estop := true }; s.running ∧ s.pins.estop = true) := by decide

theorem witness_RestartRebuildsTheQueue :
    (busy.running ∧ busy.estop = false)
    ∧ (let s := { State.reset with estop := true, pins.estop := true }; s.running ∧ s.estop = true) := by decide

theorem witness_ResetAssertionOpensEverything : busy.running := by decide

theorem witness_HeldResetTakesNoEvent :
    { busy with pins.reset := true }.pins.reset = true ∧ Instr.scAssertion 7 ≠ Instr.hardwareReset
      ∧ Instr.msloRead ≠ Instr.hardwareReset := by decide

theorem witness_OutputsFollowTheState : busy.running := by decide

theorem witness_LogTakesOffersInOrder :
    (let r : LogRecord := ⟨0, .restart, none, none, 0, none, 0, none⟩
     { EventLog.default with records := List.replicate 15 r }.records.length < 16
       ∧ 16 ≤ { EventLog.default with records := List.replicate 16 r }.records.length) := by decide

theorem witness_LogCommandsRemoveRecords :
    (State.reset.running ∧ State.reset.log.records = [])
    ∧ (frame.running ∧ ∃ head rest, frame.log.records = head :: rest) := ⟨by decide, by decide, _, _, rfl⟩

theorem witness_LogdataReadReturnsTheHeadFrame :
    (frame.running ∧ frame.log.idx = 0) ∧ (∃ r rest, frame.log.records = r :: rest)
    ∧ { frame with log.idx := 8 }.log.idx = 8 ∧ State.reset.log.records = [] :=
  ⟨by decide, ⟨_, _, rfl⟩, by decide, by decide⟩

theorem witness_DigestClrAndUnknownCode :
    State.reset.running
      ∧ (0x00 : Byte).toNat ∉ [0x01, 0x02, 0x03, 0x10, 0x11, 0x20, 0x30, 0x31, 0x32]
      ∧ (0x33 : Byte).toNat ∉ [0x01, 0x02, 0x03, 0x10, 0x11, 0x20, 0x30, 0x31, 0x32] := by decide

theorem witness_DigestCodeNamesTheTrippedBranches :
    (State.reset.running ∧ ∀ b : Branch, State.reset.digest.trips[b] = false)
    ∧ (∀ c : Branch, busy.digest.trips[c] = true ↔ c = 3)
    ∧ ((3 : Branch) ≠ 6 ∧ twoTrips.digest.trips[(3 : Branch)] = true ∧ twoTrips.digest.trips[(6 : Branch)] = true) := by
  decide

theorem witness_InterruptWritesNameSources :
    State.reset.running ∧ 64 ≤ (64 : Byte).toNat ∧ (63 : Byte).toNat < 64 := by decide

theorem witness_MsloReadHoldsTheHighByte :
    State.reset.running ∧ Instr.restart ≠ .msloRead ∧ Instr.restart ≠ .resetAssertion ∧ Instr.restart ≠ .hardwareReset
      ∧ exec .restart State.reset = .next (after .restart State.reset) := ⟨rfl, by decide, by decide, by decide, rfl⟩

theorem witness_ProfileWriteStoresOnlyInOff :
    (busy.running ∧ (busy.br busy.window.bptr).state ≠ .off)
    ∧ (State.reset.running ∧ (State.reset.br State.reset.window.bptr).state = .off
      ∧ ¬(8 : Byte).toNat ≤ 7 ∧ ¬(4 : Byte).toNat ≤ 3 ∧ ¬(0 : Byte).toNat ≠ 0)
    ∧ ((7 : Byte).toNat ≤ 7 ∧ (3 : Byte).toNat ≤ 3 ∧ (255 : Byte).toNat ≠ 0)
    ∧ (let s := after .sign (args State.reset 1 1)
       s.sig.state = .running ∧ s.sig.first ≤ s.window.bptr ∧ s.window.bptr ≤ s.sig.last) := by decide

theorem witness_PrescaleAndSlotsNeedEveryBranchIdle :
    (busy.running ∧ ¬∀ b, (busy.br b).state = .off ∨ (busy.br b).state = .lockout)
    ∧ (let s := one 7 (rec .lockout); s.running ∧ ∀ b, (s.br b).state = .off ∨ (s.br b).state = .lockout)
    ∧ ¬(1 ≤ (0 : Byte).toNat ∧ (0 : Byte).toNat ≤ 32) ∧ ¬(1 ≤ (33 : Byte).toNat ∧ (33 : Byte).toNat ≤ 32)
    ∧ (1 ≤ (32 : Byte).toNat ∧ (32 : Byte).toNat ≤ 32) ∧ ¬(1 ≤ (4 : Byte).toNat ∧ (4 : Byte).toNat ≤ 3)
    ∧ (1 ≤ (3 : Byte).toNat ∧ (3 : Byte).toNat ≤ 3) := by decide

theorem witness_LogthrWriteMovesTheCondition :
    State.reset.running ∧ (1 ≤ (1 : Byte).toNat ∧ (1 : Byte).toNat ≤ 16) ∧ (1 ≤ (16 : Byte).toNat ∧ (16 : Byte).toNat ≤ 16)
      ∧ (0 : Byte).toNat = 0 ∧ 16 < (17 : Byte).toNat := by decide

theorem witness_GlobalSettingWrites : State.reset.running ∧ (1 : Byte).toNat ≠ 0 ∧ (255 : Byte).toNat ≠ 0 := by decide

theorem witness_ReadOnlyLocationsRefuseWrites :
    State.reset.running ∧ (0x0C : Loc).toNat ∈ [0x0C, 0x2A] ∧ (0x2A : Loc).toNat ∈ [0x0C, 0x2A]
      ∧ 0x2B ≤ (0x2B : Loc).toNat ∧ 0x2B ≤ (0x3F : Loc).toNat := by decide

theorem witness_PointerWritesAndStatusReads :
    State.reset.running ∧ (1 : Byte).toNat = (0 : Branch).val + 1 ∧ (8 : Byte).toNat = (7 : Branch).val + 1
      ∧ 8 < (9 : Byte).toNat ∧ (7 : Byte).toNat = (7 : Fin 8).val ∧ (0x13 : Byte).toNat = 16 + (3 : Fin 4).val
      ∧ (7 < (8 : Byte).toNat ∧ (8 : Byte).toNat < 16) ∧ 19 < (20 : Byte).toNat ∧ (8 : Byte).toNat = (8 : Fin 9).val
      ∧ State.reset.window.viewsel = .queue 0
      ∧ (busy.running ∧ (busy.br busy.window.bptr).attempts ≤ 7 ∧ busy.arbiter.queue.length ≤ 8
        ∧ busy.arbiter.inrushCount ≤ 3 ∧ busy.load.stack.length ≤ 4 ∧ busy.log.records.length ≤ 16)
      ∧ (after (.registerWrite 0x1C 0x13) State.reset).window.viewsel = .stack 3 := by decide

theorem witness_ScAssertionTripsAtOnce :
    (busy.running ∧ busy.pins.sc[(1 : Branch)] = false ∧ (busy.br 1).state = .inrush)
    ∧ (busy.pins.sc[(0 : Branch)] = false ∧ (busy.br 0).state = .on)
    ∧ (busy.pins.sc[(7 : Branch)] = false ∧ (busy.br 7).state ≠ .inrush ∧ (busy.br 7).state ≠ .on)
    ∧ { busy with pins.sc := Vector.replicate 8 true }.pins.sc[(7 : Branch)] = true := by decide

theorem witness_OcAssertionQualifiesInOn :
    (busy.running ∧ busy.pins.oc[(0 : Branch)] = false ∧ (busy.br 0).state = .on ∧ (busy.br 0).profile.ocqual ≠ 0)
    ∧ (let s := one 7 { rec .on with profile.ocqual := 0 }
       s.running ∧ s.pins.oc[(7 : Branch)] = false ∧ (s.br 7).state = .on ∧ (s.br 7).profile.ocqual = 0)
    ∧ (busy.pins.oc[(1 : Branch)] = false ∧ (busy.br 1).state ≠ .on)
    ∧ { busy with pins.oc := Vector.replicate 8 true }.pins.oc[(7 : Branch)] = true := by decide

theorem witness_PgEventsCompleteAndQualify :
    (let s := one 1 (rec .inrush)
     s.running ∧ s.pins.pg[(1 : Branch)] = false ∧ (s.br 1).state = .inrush ∧ (s.br 1).blanking = none)
    ∧ (busy.running ∧ busy.pins.pg[(1 : Branch)] = false ∧ (busy.br 1).state = .inrush ∧ (busy.br 1).blanking ≠ none)
    ∧ (let s := one 7 { rec .on with pgLoss := some 4 }; s.pins.pg[(7 : Branch)] = false ∧ (s.br 7).state = .on)
    ∧ (busy.pins.pg[(7 : Branch)] = false ∧ (busy.br 7).state ≠ .inrush ∧ (busy.br 7).state ≠ .on)
    ∧ (busy.pins.pg[(0 : Branch)] = true ∧ (busy.br 0).state = .on)
    ∧ (let s := { one 1 (rec .inrush) with pins.pg := Vector.replicate 8 true }
       s.pins.pg[(1 : Branch)] = true ∧ (s.br 1).state ≠ .on) := by decide

theorem witness_QualifyExpiriesTrip :
    (let s := one 0 { rec .on with ocQualify := some 0, pgLoss := some 0 }
     s.clocked ∧ (s.br 0).state = .on ∧ (s.br 0).ocQualify ≠ none ∧ (s.br 0).pgLoss ≠ none)
    ∧ (busy.clocked ∧ (busy.br 1).state = .inrush ∧ (busy.br 1).rise ≠ none ∧ (busy.br 1).pgLevel = false) := by decide

theorem witness_BlankingExpiryCompletesWithPowerGood :
    (busy.clocked ∧ (busy.br 1).state = .inrush ∧ (busy.br 1).blanking ≠ none ∧ (busy.br 1).pgLevel = false)
    ∧ (let s := after (.pgAssertion 1) busy
       s.clocked ∧ (s.br 1).state = .inrush ∧ (s.br 1).blanking ≠ none ∧ (s.br 1).rise ≠ none
         ∧ (s.br 1).pgLevel = true) := by decide

theorem witness_ExpiryOfStoppedTimerDoesNothing :
    (State.reset.br 7).ocQualify = none ∧ (State.reset.br 7).pgLoss = none ∧ (State.reset.br 7).blanking = none
      ∧ (State.reset.br 7).rise = none ∧ (State.reset.br 7).dead = none ∧ (State.reset.br 7).settle = none
      ∧ State.reset.arbiter.staggerTimer = none ∧ State.reset.load.qualifyTimer = none
      ∧ State.reset.load.shedTimer = none ∧ State.reset.load.holdTimer = none ∧ State.reset.load.spacingTimer = none
      ∧ State.reset.sig.timer = none := by decide

theorem witness_DeadExpiryRequestsTheReclose :
    busy.clocked ∧ (busy.br 3).state = .dead ∧ (busy.br 3).dead ≠ none ∧ QueueSplit busy 3 [2] [] := by decide

theorem witness_QuietTimeEvents :
    (busy.clocked ∧ (busy.br 0).state = .on ∧ (busy.br 0).settle ≠ none)
    ∧ { busy with arbiter.staggerTimer := some 0 }.arbiter.staggerTimer ≠ none := by decide

theorem witness_GrantClosesTheQueueHead :
    (let s := { one 7 (rec .queued) with arbiter.queue := [7] }
     s.clocked ∧ s.arbiter.queue = 7 :: [] ∧ s.arbiter.inrushCount < s.arbiter.slots.toNat
       ∧ s.arbiter.staggerTimer = none ∧ s.load.qualified = false ∧ (s.br 7).state = .queued
       ∧ (s.br 7).scLevel = false)
    ∧ (State.reset.clocked ∧ State.reset.arbiter.queue = [])
    ∧ busy.arbiter.slots.toNat ≤ busy.arbiter.inrushCount := by decide

theorem witness_GrantOntoShortTripsWithoutPulse :
    (let s := recloses 3
     s.clocked ∧ s.arbiter.queue = 2 :: [] ∧ s.arbiter.inrushCount < s.arbiter.slots.toNat
       ∧ s.arbiter.staggerTimer = none ∧ s.load.qualified = false ∧ (s.br 2).state = .queued
       ∧ (s.br 2).scLevel = true) := by decide

theorem witness_OnlyAGrantAssertsASwitchEnable :
    (let s := { one 7 (rec .queued) with arbiter.queue := [7] }
     exec .grant s = .next (after .grant s) ∧ s.onOut 7 = false ∧ (after .grant s).onOut 7 = true) :=
  ⟨rfl, by decide, by decide⟩

theorem witness_StressAssertionQualifies :
    (State.reset.running ∧ State.reset.pins.supovl = false ∧ State.reset.load.buslo = false
      ∧ State.reset.load.stressqual ≠ 0)
    ∧ (let s := { State.reset with load.stressqual := 0 }
       s.running ∧ s.pins.buslo = false ∧ s.load.supovl = false ∧ s.load.stressqual = 0)
    ∧ (let s := after (.stressInputAssertion .buslo) State.reset; s.pins.supovl = false ∧ s.load.buslo = true)
    ∧ (let s := after (.stressInputAssertion .supovl) State.reset; s.pins.buslo = false ∧ s.load.supovl = true) := by
  decide

/-- Both stress inputs asserted. -/
def bothStressed : State := afterAll [.stressInputAssertion .supovl, .stressInputAssertion .buslo] State.reset

/-- SUPOVL# asserted and qualified, in SHEDDING. -/
def shedding : State := after .stressQualifyExpiry 
  { overload with
    pins.supovl := true, pins.pg := #v[false, true, true, true, false, false, false, false] }

theorem witness_StressReleaseEndsTheEpisode :
    (bothStressed.running ∧ bothStressed.pins.buslo = true ∧ bothStressed.load.supovl = true)
    ∧ (let s := after (.stressInputAssertion .buslo) State.reset
       s.running ∧ s.pins.buslo = true ∧ s.load.supovl = false ∧ s.load.qualified = false)
    ∧ (shedding.running ∧ shedding.pins.supovl = true ∧ shedding.load.buslo = false ∧ shedding.load.qualified = true
      ∧ shedding.load.mode = .shedding)
    ∧ (let s := after .allOff shedding
       s.running ∧ s.pins.supovl = true ∧ s.load.buslo = false ∧ s.load.qualified = true ∧ s.load.mode ≠ .shedding) := by
  decide

theorem witness_StressQualifyExpiryRaisesQualifiedStress : overload.clocked ∧ overload.load.qualifyTimer ≠ none := by
  decide

/-- The cases of a rise and of a shed step: CALM with a victim, RESTORING with a QUEUED branch in flight, no victim with
the exhausted flag clear and set, a full stack. -/
theorem witness_RiseEffect :
    (overload.load.mode = .calm ∧ IsVictim overload 3 ∧ overload.load.stack.length < 4)
    ∧ (busy.load.mode = .restoring ∧ busy.load.inFlight = some 2 ∧ (busy.br 2).state = .queued
      ∧ busy.arbiter.queue = [] ++ 2 :: [])
    ∧ ((∀ v, ¬IsVictim State.reset v) ∧ State.reset.load.exhausted = false)
    ∧ { State.reset with load.exhausted := true }.load.exhausted = true
    ∧ (IsVictim fullStack 4 ∧ fullStack.load.stack = [1, 2, 3] ++ [5] ∧ [1, 2, 3].length = 3
      ∧ (fullStack.br 5).state = .shed) := by decide

theorem witness_ShedIntervalExpiryTakesOneShedStep :
    shedding.clocked ∧ shedding.load.shedTimer ≠ none ∧ shedding.load.mode = .shedding := by decide

theorem witness_ShedStepTakesAVictimIfThereIsOne :
    (overload.victim = some 3 ∧ overload.victim ≠ some 2 ∧ ¬4 ≤ overload.load.stack.length)
    ∧ (fullStack.victim = some 4 ∧ 4 ≤ fullStack.load.stack.length ∧ fullStack.load.stack.getLast? ≠ some 4
      ∧ fullStack.victim ≠ some 1 ∧ fullStack.load.stack.getLast? ≠ some 1)
    ∧ State.reset.victim = none := by decide

theorem witness_RestoreStepPopsTheTop :
    (let s := { one 5 (rec .shed) with
                load := { LoadManager.default with mode := .hold, holdTimer := some 0, stack := [5] } }
     s.clocked ∧ s.load.mode = .hold ∧ s.load.holdTimer ≠ none ∧ s.load.stack = 5 :: [] ∧ (s.br 5).state = .shed
       ∧ QueueSplit s 5 [] [])
    ∧ (let s := { State.reset with load := { LoadManager.default with mode := .hold, holdTimer := some 0 } }
       s.clocked ∧ s.load.mode = .hold ∧ s.load.holdTimer ≠ none ∧ s.load.stack = [])
    ∧ (let s := { busy with load := { busy.load with spacingTimer := some 0, inFlight := none } }
       s.clocked ∧ s.load.mode = .restoring ∧ s.load.spacingTimer ≠ none ∧ s.load.stack = 5 :: []
         ∧ (s.br 5).state = .shed ∧ QueueSplit s 5 [2] [])
    ∧ (let s := { State.reset with load := { LoadManager.default with mode := .restoring, spacingTimer := some 0 } }
       s.clocked ∧ s.load.mode = .restoring ∧ s.load.spacingTimer ≠ none ∧ s.load.stack = []) := by decide

theorem witness_SignStartsOrRefuses :
    (State.reset.running ∧ ¬(1 ≤ State.reset.window.arg0.toNat))
    ∧ (let s := args State.reset 8 8
       s.running ∧ s.window.arg0.toNat = (7 : Branch).val + 1 ∧ 1 ≤ s.window.arg1.toNat ∧ s.window.arg1.toNat ≤ 8
         ∧ (7 : Branch).val + 1 = min (s.window.arg0.toNat + s.window.arg1.toNat - 1) 8 ∧ s.sig.state ≠ .running)
    ∧ (let s := args busy 1 1
       s.running ∧ s.window.arg0.toNat = (0 : Branch).val + 1 ∧ s.window.arg1.toNat = 1
         ∧ (0 : Branch).val + 1 = min (s.window.arg0.toNat + s.window.arg1.toNat - 1) 8 ∧ s.sig.state = .running) := by
  decide

theorem witness_SignatureExpiryFoldsOneRecord :
    (busy.clocked ∧ busy.sig.state = .running ∧ busy.sig.timer ≠ none ∧ busy.sig.progress = some 2
      ∧ (2 : Branch) < busy.sig.last ∧ (3 : Branch).val = (2 : Branch).val + 1)
    ∧ (let s := { busy with sig.progress := some 3 }
       s.clocked ∧ s.sig.state = .running ∧ s.sig.timer ≠ none ∧ s.sig.progress = some 3 ∧ s.sig.last ≤ 3) := by decide

theorem witness_SignatureRunFoldsTheWholeRange :
    (let s := args State.reset 8 8
     s.clocked ∧ s.sig.state ≠ .running ∧ s.window.arg0.toNat = (7 : Branch).val + 1 ∧ 1 ≤ s.window.arg1.toNat
       ∧ s.window.arg1.toNat ≤ 8 ∧ 1 = min s.window.arg1.toNat (8 - (7 : Branch).val)) := by decide

/-- A busy part with a command waiting: what the statements about every step assume. -/
def busyWithCommand : State := { busy with pending := [.openBranch] }

theorem witness_step : step busyWithCommand = .next (after .openBranch busy) := rfl

theorem witness_StepKeepsBranchesLawful : busyWithCommand.branchesLawful := by
  unfold State.branchesLawful BranchRec.timersLawful BranchRec.attemptsLawful; decide

theorem witness_StepKeepsSettingsAndTimeLawful : busyWithCommand.settingsLawful ∧ busyWithCommand.timeLawful := by
  unfold State.settingsLawful State.timeLawful; decide

theorem witness_StepKeepsAdmissionLawful : busyWithCommand.admissionLawful := by
  unfold State.admissionLawful State.queueLawful State.slotsLawful State.stackLawful State.loadLawful; decide

/-- ESTOP# asserted, branch 1 locked out, a CLOSE waiting. -/
def stopped : State := { one 0 (rec .lockout) with estop := true, pins.estop := true, pending := [.close] }

theorem witness_StepKeepsEstopLawful : stopped.admissionLawful ∧ stopped.estopLawful ∧ stopped.estop = true := by
  refine ⟨?_, by unfold State.estopLawful; decide, rfl⟩
  unfold State.admissionLawful State.queueLawful State.slotsLawful State.stackLawful State.loadLawful; decide

theorem witness_StepKeepsLevelsAndStressLawful : shedding.levelsLawful ∧ shedding.stressLawful := by
  unfold State.levelsLawful State.stressLawful; decide

theorem witness_StepKeepsDetectorsLawful : busyWithCommand.detectorLawful := by
  unfold State.detectorLawful BranchRec.detectorLawful; decide

theorem witness_StepKeepsLogAndDigestLawful : busyWithCommand.log.lawful ∧ busyWithCommand.digest.lawful := by
  refine ⟨⟨by decide, by decide, fun r hr => ?_⟩, by unfold Digest.lawful; decide⟩
  obtain rfl := List.mem_singleton.mp hr
  exact ⟨by decide, by decide, by decide, by decide⟩

theorem witness_StepKeepsSignatureLawful : busyWithCommand.signatureLawful := by
  unfold State.signatureLawful; decide

theorem witness_StepKeepsHeldResetLawful :
    (let s := after .resetAssertion busy; s.pins.reset = true ∧ s.resetHeldLawful) := by
  unfold State.resetHeldLawful; decide

end Sys2Proof.Tests
end

namespace Sys2Proof.Machine

/-! ### What keeps the timebase (R6)

Nothing that a branch, the queue, the load manager, the log, the interrupts or the signature engine does touches the
timebase. One lemma for each operation, each resting on those before it; where an operation only chooses between
branches by `if`, `apply_ite` carries the projection into both. -/

section KeepTimebase

variable (s : State) (b : Branch)

/-! #### The shared operations of Machine/Ops.lean -/

@[simp] theorem State.endFlightOf_time : (s.endFlightOf b).time = s.time := by
  rw [State.endFlightOf_eq]

@[simp] theorem State.takeTrip_time (cause : TripCause) (ph : Phase) : (s.takeTrip b cause ph).time = s.time := by
  simp [State.takeTrip, apply_ite State.time]

@[simp] theorem State.enterInrush_time : (s.enterInrush b).time = s.time := by
  simp [State.enterInrush, apply_ite State.time]

@[simp] theorem State.overcurrent_time : (s.overcurrent b).time = s.time := by
  simp [State.overcurrent, apply_ite State.time]

@[simp] theorem State.examineAtOn_time : (s.examineAtOn b).time = s.time := by
  simp [State.examineAtOn, apply_ite State.time]

@[simp] theorem State.complete_time : (s.complete b).time = s.time := by
  simp [State.complete]

@[simp] theorem State.takeGrant_time : s.takeGrant.time = s.time := by
  unfold State.takeGrant
  cases s.arbiter.queue with
  | nil => rfl
  | cons c rest => dsimp only; split <;> simp

@[simp] theorem State.shedVictim_time (v : Branch) : (s.shedVictim v).time = s.time := by
  unfold State.shedVictim
  dsimp only
  split <;> simp

@[simp] theorem State.exhaust_time : s.exhaust.time = s.time := by
  simp [State.exhaust, apply_ite State.time]

@[simp] theorem State.shedStep_time : s.shedStep.time = s.time := by
  unfold State.shedStep
  split <;> simp

@[simp] theorem State.startShedding_time : s.startShedding.time = s.time := by
  simp [State.startShedding]

@[simp] theorem State.recall_time : s.recall.time = s.time := by
  unfold State.recall
  cases s.load.inFlight with
  | none => rfl
  | some c => dsimp only; split <;> simp

@[simp] theorem State.qualifiedRise_time : s.qualifiedRise.time = s.time := by
  unfold State.qualifiedRise
  dsimp only
  split <;> simp

@[simp] theorem State.qualifiedFall_time : s.qualifiedFall.time = s.time := by
  simp [State.qualifiedFall_eq, apply_ite State.time]

@[simp] theorem State.restoreStep_time : s.restoreStep.time = s.time := by
  unfold State.restoreStep
  split <;> simp

@[simp] theorem State.restoreOrCalm_time : s.restoreOrCalm.time = s.time := by
  simp [State.restoreOrCalm, apply_ite State.time]

@[simp] theorem State.profileNotice_time : (s.profileNotice b).time = s.time := by
  simp [State.profileNotice, apply_ite State.time]

/-! #### Trip detection, reclose sequencing and the stagger timer -/

@[simp] theorem State.takeScAssertion_time : (s.takeScAssertion b).time = s.time := by
  unfold State.takeScAssertion
  dsimp only
  split <;> simp

@[simp] theorem State.takeOcAssertion_time : (s.takeOcAssertion b).time = s.time := by
  simp [State.takeOcAssertion, apply_ite State.time]

@[simp] theorem State.takeOcRelease_time : (s.takeOcRelease b).time = s.time := rfl

@[simp] theorem State.takePgAssertion_time : (s.takePgAssertion b).time = s.time := by
  simp [State.takePgAssertion, apply_ite State.time]

@[simp] theorem State.takePgRelease_time : (s.takePgRelease b).time = s.time := by
  simp [State.takePgRelease, apply_ite State.time]

@[simp] theorem State.expireOcQualify_time : (s.expireOcQualify b).time = s.time := by
  simp [State.expireOcQualify, apply_ite State.time]

@[simp] theorem State.expirePgLoss_time : (s.expirePgLoss b).time = s.time := by
  simp [State.expirePgLoss, apply_ite State.time]

@[simp] theorem State.expireBlanking_time : (s.expireBlanking b).time = s.time := by
  simp [State.expireBlanking, apply_ite State.time]

@[simp] theorem State.expireRise_time : (s.expireRise b).time = s.time := by
  simp [State.expireRise, apply_ite State.time]

@[simp] theorem State.expireDead_time : (s.expireDead b).time = s.time := by
  simp [State.expireDead, apply_ite State.time]

@[simp] theorem State.expireSettle_time : (s.expireSettle b).time = s.time := by
  simp [State.expireSettle, apply_ite State.time]

@[simp] theorem State.expireStagger_time : s.expireStagger.time = s.time := rfl

/-! #### Stress inputs and the load manager's timers -/

@[simp] theorem State.rawRise_time : s.rawRise.time = s.time := by
  simp [State.rawRise, apply_ite State.time]

@[simp] theorem State.rawFall_time : s.rawFall.time = s.time := by
  simp [State.rawFall, apply_ite State.time]

@[simp] theorem State.takeStressAssertion_time (i : StressInput) : (s.takeStressAssertion i).time = s.time := by
  simp [State.takeStressAssertion, apply_ite State.time]

@[simp] theorem State.takeStressRelease_time (i : StressInput) : (s.takeStressRelease i).time = s.time := by
  simp [State.takeStressRelease, apply_ite State.time]

@[simp] theorem State.expireStressQualify_time : s.expireStressQualify.time = s.time := by
  simp [State.expireStressQualify, apply_ite State.time]

@[simp] theorem State.expireShedInterval_time : s.expireShedInterval.time = s.time := by
  simp [State.expireShedInterval, apply_ite State.time]

@[simp] theorem State.expireHold_time : s.expireHold.time = s.time := by
  simp [State.expireHold, apply_ite State.time]

@[simp] theorem State.expireSpacing_time : s.expireSpacing.time = s.time := by
  simp [State.expireSpacing, apply_ite State.time]

/-! #### Commands -/

@[simp] theorem State.closeCommand_time : s.closeCommand.time = s.time := by
  unfold State.closeCommand
  cases branchArgument s.window.arg0 with
  | none => rfl
  | some c =>
    dsimp only
    split
    · rfl
    · split <;> simp

@[simp] theorem State.openBranch_time : (s.openBranch b).time = s.time := by
  unfold State.openBranch
  cases (s.br b).state <;> simp

@[simp] theorem State.openCommand_time : s.openCommand.time = s.time := by
  unfold State.openCommand
  split <;> simp

@[simp] theorem State.rearmCommand_time : s.rearmCommand.time = s.time := by
  unfold State.rearmCommand
  cases branchArgument s.window.arg0 with
  | none => rfl
  | some c => dsimp only; split <;> simp

@[simp] theorem State.allOffCommand_time : s.allOffCommand.time = s.time := rfl

@[simp] theorem State.takeEstopAssertion_time : s.takeEstopAssertion.time = s.time := rfl

@[simp] theorem State.foldl_joinQueue_time (l : List Branch) : (l.foldl State.joinQueue s).time = s.time := by
  induction l generalizing s with
  | nil => rfl
  | cons c l ih => rw [List.foldl_cons, ih, State.joinQueue_time]

@[simp] theorem State.takeRestart_time : s.takeRestart.time = s.time := by
  unfold State.takeRestart
  dsimp only
  rw [State.foldl_joinQueue_time, State.offer_time]
  split <;> simp

@[simp] theorem State.restartCommand_time : s.restartCommand.time = s.time := by
  simp [State.restartCommand, apply_ite State.time]

@[simp] theorem State.signCommand_time : s.signCommand.time = s.time := by
  unfold State.signCommand
  split
  · split <;> rfl
  · rfl

@[simp] theorem State.expireSignature_time : s.expireSignature.time = s.time := by
  unfold State.expireSignature
  split
  · rfl
  · split
    · dsimp only; split <;> rfl
    · rfl

@[simp] theorem State.digestClrCommand_time : s.digestClrCommand.time = s.time := rfl

@[simp] theorem State.logAdvCommand_time : s.logAdvCommand.time = s.time := by
  unfold State.logAdvCommand
  split <;> rfl

@[simp] theorem State.logClrCommand_time : s.logClrCommand.time = s.time := rfl

/-- A write to 00h runs a command of R164 or sets RESULT, and none of these touches the timebase. -/
@[simp] theorem State.writeCmd_time (code : Byte) : (s.writeCmd code).time = s.time := by
  unfold State.writeCmd
  split <;> simp

/-! #### Writes of settings -/

@[simp] theorem State.writeProfile_time (f : ProfileField) (v : Byte) : (s.writeProfile f v).time = s.time := by
  simp [State.writeProfile, apply_ite State.time]

@[simp] theorem State.writeSlots_time (v : Byte) : (s.writeSlots v).time = s.time := by
  simp [State.writeSlots, apply_ite State.time]

@[simp] theorem State.writeLogthr_time (v : Byte) : (s.writeLogthr v).time = s.time := by
  simp [State.writeLogthr, apply_ite State.time]

@[simp] theorem State.acknowledge_time (v : Byte) : (s.acknowledge v).time = s.time := by
  simp [State.acknowledge, apply_ite State.time]

@[simp] theorem State.writeIrqen_time (v : Byte) : (s.writeIrqen v).time = s.time := by
  simp [State.writeIrqen, apply_ite State.time]

@[simp] theorem State.writeOther_time (loc : Loc) (v : Byte) : (s.writeOther loc v).time = s.time := by
  unfold State.writeOther
  split <;> (try split) <;> rfl

end KeepTimebase

/-! ### What keeps the MSHI hold (R6) -/

section KeepHold

variable {s : State} {f : State → State}

/-- A write to PRESCALE changes nothing of the timebase but the setting (R4, R5). -/
@[simp] theorem State.writePrescale_mshi (s : State) (v : Byte) : (s.writePrescale v).time.mshi = s.time.mshi := by
  unfold State.writePrescale
  split
  · rfl
  · split <;> rfl

/-- A millisecond boundary moves the counts and leaves the hold (R2). -/
@[simp] theorem State.takeMsBoundary_mshi (s : State) : s.takeMsBoundary.time.mshi = s.time.mshi := rfl

/-- PRESCALE is the only location whose write reaches the timebase. -/
@[simp] theorem State.writeLocation_mshi (s : State) (loc : Loc) (v : Byte) :
    (s.writeLocation loc v).time.mshi = s.time.mshi := by
  unfold State.writeLocation
  cases profileFieldAt loc with
  | some f => simp
  | none => dsimp only; split <;> simp

/-- An event held off by RESET# changes nothing, so it keeps what the event itself keeps. -/
theorem State.whenRunning_mshi (h : (f s).time.mshi = s.time.mshi) : (s.whenRunning f).time.mshi = s.time.mshi := by
  unfold State.whenRunning
  split
  · rfl
  · exact h

/-- The same for an event that also waits for CLKIN. -/
theorem State.whenClocked_mshi (h : (f s).time.mshi = s.time.mshi) : (s.whenClocked f).time.mshi = s.time.mshi := by
  unfold State.whenClocked
  split
  · rfl
  · exact h

/-- The shape of every pin event: none at a pin already at its level, else the pin and the event (log 7). -/
theorem State.pinEvent_mshi {p : Prop} [Decidable p] {pins : Pins}
    (h : (f { s with pins := pins }).time.mshi = s.time.mshi) :
    (if p then s else State.whenRunning { s with pins := pins } f).time.mshi = s.time.mshi := by
  split
  · rfl
  · exact State.whenRunning_mshi h

/-- Every command but the read of MSLO and the two RESET# events keeps the hold: the host's accesses, the pin events,
and the part's own timers and grants. -/
theorem exec_mshi {c : Instr} {t : State} (hread : c ≠ .msloRead) (hassert : c ≠ .resetAssertion)
    (hrelease : c ≠ .hardwareReset) (h : exec c s = .next t) : t.time.mshi = s.time.mshi := by
  cases c with
  | msloRead => exact absurd rfl hread
  | resetAssertion => exact absurd rfl hassert
  | hardwareReset => exact absurd rfl hrelease
  | logdataRead =>
    obtain rfl := Host.Outcome.next.inj h
    split <;> rfl
  | close | openBranch | rearm | allOff | restart | sign | digestClr | logAdv | logClr | unknownCommand _
  | profileWrite _ _ | prescaleWrite _ | slotsWrite _ | irqpendAcknowledge _ | irqenWrite _ | logthrWrite _
  | registerWrite _ _ =>
    obtain rfl := Host.Outcome.next.inj h
    exact State.whenRunning_mshi (by simp)
  | scAssertion _ | scRelease _ | ocAssertion _ | ocRelease _ | pgAssertion _ | pgRelease _
  | stressInputAssertion _ | stressInputRelease _ | estopAssertion =>
    obtain rfl := Host.Outcome.next.inj h
    exact State.pinEvent_mshi (by simp)
  | estopRelease =>
    obtain rfl := Host.Outcome.next.inj h
    exact State.pinEvent_mshi rfl
  | millisecondBoundary | ocQualifyExpiry _ | pgLossExpiry _ | blankingExpiry _ | riseExpiry _ | deadExpiry _
  | settleExpiry _ | staggerExpiry | stressQualifyExpiry | shedIntervalExpiry | holdExpiry | restoreSpacingExpiry
  | signatureRecordExpiry =>
    obtain rfl := Host.Outcome.next.inj h
    exact State.whenClocked_mshi (by simp)
  | grant =>
    obtain rfl := Host.Outcome.next.inj h
    exact State.whenClocked_mshi (by simp [apply_ite State.time])

end KeepHold

/-! ### The read of MSLO and the writes to 29h and 2Ah (R6, R160) -/

/-- The read itself: the low byte goes out and the high byte into the hold. -/
theorem exec_msloRead {s : State} (h : s.running) :
    exec .msloRead s =
      .next { s with window.dataOut := s.time.ms.setWidth 8, time.mshi := (s.time.ms >>> 8).setWidth 8 } := by
  have h : s.pins.reset = false := h
  simp [exec, execMsloRead, State.readMslo, h]

theorem toNat_highByte (c : Half) : ((c >>> 8).setWidth 8 : Byte).toNat = c.toNat / 256 := by
  have hc : c.toNat < 65536 := c.isLt
  simp only [BitVec.toNat_setWidth, BitVec.toNat_ushiftRight, Nat.shiftRight_eq_div_pow]
  omega

/-- With RESET# released 29h reads the low byte of the counter as it stands and 2Ah the hold. -/
theorem State.readLocation_mslo {s : State} (h : s.running) : s.readLocation 0x29 = s.time.ms.setWidth 8 := by
  have h : s.pins.reset = false := h
  simp [State.readLocation, h]

theorem State.readLocation_mshi {s : State} (h : s.running) : s.readLocation 0x2A = s.time.mshi := by
  have h : s.pins.reset = false := h
  simp [State.readLocation, h]

/-- A write that the part refuses as READONLY changes WSTAT alone. -/
theorem exec_registerWrite_readonly {s : State} {loc : Loc} {v : Byte} (h : s.running)
    (hw : s.writeLocation loc v = s.withWstat .readonly) :
    exec (.registerWrite loc v) s = .next { s with window.wstat := .readonly } :=
  congrArg Host.Outcome.next ((State.whenRunning_running h _).trans hw)

/-- Settles O24: the read, the two reads and the two refused writes by their own lemmas; that nothing else changes the
hold is `exec_mshi`. -/
theorem msloReadHoldsTheHighByte : Obligations.MsloReadHoldsTheHighByte := by
  refine ⟨fun s h => ?_, fun c s t hread hassert hrelease hexec => exec_mshi hread hassert hrelease hexec, rfl⟩
  refine ⟨_, _, exec_msloRead h, BitVec.toNat_setWidth .., toNat_highByte _, State.readLocation_mslo h,
    State.readLocation_mshi h, fun v => ⟨?_, ?_⟩⟩
  · exact exec_registerWrite_readonly h rfl
  · exact exec_registerWrite_readonly h rfl

end Sys2Proof.Machine

namespace Sys2Proof.Machine

/-! ### Events of SCn#, OCn# and PGn (R35, R38, R42, R43, R48 to R50)

A change of a pin is recorded as the level first; the rules then speak of the state with the level recorded. -/

section DetectorEvents

variable {s : State} {n : Branch}

/-- With RESET# released a pin event at a pin that changes its level is the pin and then the event (log 7). -/
theorem State.pinEvent_taken {p : Prop} [Decidable p] {pins : Pins} {f : State → State} (h : s.running)
    (hpins : pins.reset = s.pins.reset) (hp : ¬p) :
    (if p then s else State.whenRunning { s with pins := pins } f) = f { s with pins := pins } := by
  rw [if_neg hp]
  exact State.whenRunning_running (hpins.trans h) f

/-- Two changes of one branch record are one change. -/
theorem State.updBr_updBr (f g : BranchRec → BranchRec) :
    (s.updBr n f).updBr n g = s.updBr n fun r => g (f r) := by
  rw [State.updBr, State.br_updBr, if_pos rfl]
  simp [State.updBr, State.setBr]

/-! #### SCn# -/

/-- The state with the level of SCn# recorded (R32). -/
def State.recordSc (s : State) (n : Branch) (level : Bool) : State := s.updBr n fun r => { r with scLevel := level }

@[simp] theorem State.br_recordSc (level : Bool) : (s.recordSc n level).br n = { s.br n with scLevel := level } := by
  simp [State.recordSc]

theorem exec_scAssertion (h : s.running) (hp : s.pins.sc[n] = false) :
    exec (.scAssertion n) s =
      .next (State.takeScAssertion { s with pins := s.pins.afterEvent (.scAssertion n) } n) :=
  congrArg Host.Outcome.next (State.pinEvent_taken h rfl (by simpa using hp))

theorem exec_scRelease (h : s.running) (hp : s.pins.sc[n] = true) :
    exec (.scRelease n) s = .next (State.recordSc { s with pins := s.pins.afterEvent (.scRelease n) } n false) :=
  congrArg Host.Outcome.next (State.pinEvent_taken h rfl (by simpa using hp))

/-- In both phases of a trip, INRUSH and ON, the assertion is the trip of that phase (R35). -/
theorem State.takeScAssertion_effect {ph : Phase} (hs : (s.br n).state = ph.state) :
    TripEffect (s.recordSc n true) (s.takeScAssertion n) n .sc ph := by
  have trip : s.takeScAssertion n = (s.recordSc n true).takeTrip n .sc ph := by
    cases ph <;> simp [State.takeScAssertion, State.recordSc, hs, Phase.state]
  rw [trip]
  exact State.takeTrip_effect (by simpa using hs) .sc

theorem State.takeScAssertion_elsewhere (hi : (s.br n).state ≠ .inrush) (ho : (s.br n).state ≠ .on) :
    s.takeScAssertion n = s.recordSc n true := by
  unfold State.takeScAssertion
  simp only [State.br_updBr, if_true]
  cases hs : (s.br n).state with
  | inrush => exact absurd hs hi
  | on => exact absurd hs ho
  | off | queued | dead | lockout | shed => rfl

/-! #### OCn# -/

/-- The state with the level of OCn# recorded (R32). -/
def State.recordOc (s : State) (n : Branch) (level : Bool) : State := s.updBr n fun r => { r with ocLevel := level }

@[simp] theorem State.br_recordOc (level : Bool) : (s.recordOc n level).br n = { s.br n with ocLevel := level } := by
  simp [State.recordOc]

theorem exec_ocAssertion (h : s.running) (hp : s.pins.oc[n] = false) :
    exec (.ocAssertion n) s =
      .next (State.takeOcAssertion { s with pins := s.pins.afterEvent (.ocAssertion n) } n) :=
  congrArg Host.Outcome.next (State.pinEvent_taken h rfl (by simpa using hp))

theorem exec_ocRelease (h : s.running) (hp : s.pins.oc[n] = true) :
    exec (.ocRelease n) s = .next (State.takeOcRelease { s with pins := s.pins.afterEvent (.ocRelease n) } n) :=
  congrArg Host.Outcome.next (State.pinEvent_taken h rfl (by simpa using hp))

theorem State.takeOcAssertion_eq :
    s.takeOcAssertion n =
      if (s.br n).state = .on then (s.recordOc n true).overcurrent n else s.recordOc n true := by
  simp [State.takeOcAssertion, State.recordOc]

/-- In ON with OCQUAL 0 the assertion is the trip (R48). -/
theorem State.takeOcAssertion_effect (hs : (s.br n).state = .on) (hq : (s.br n).profile.ocqual = 0) :
    TripEffect (s.recordOc n true) (s.takeOcAssertion n) n .oc .on := by
  obtain ⟨trip, -⟩ := State.overcurrent_effect (s := s.recordOc n true) (b := n) (by simpa using hs)
  rw [State.takeOcAssertion_eq, if_pos hs]
  exact trip (by simpa using hq)

/-- In ON with OCQUAL above 0 the assertion starts the qualify timer (R48). -/
theorem State.takeOcAssertion_qualifies (hs : (s.br n).state = .on) (hq : (s.br n).profile.ocqual ≠ 0) :
    s.takeOcAssertion n =
      { s with branches := s.branches.set n
                { s.br n with ocLevel := true, ocQualify := some ((s.br n).profile.ocqual.toNat * 4) } } := by
  obtain ⟨-, qualify⟩ := State.overcurrent_effect (s := s.recordOc n true) (b := n) (by simpa using hs)
  rw [State.takeOcAssertion_eq, if_pos hs, qualify (by simpa using hq)]
  simp only [State.br_recordOc]
  simp only [State.recordOc, State.updBr_branches, Vector.set_set]
  rfl

theorem State.takeOcAssertion_elsewhere (hs : (s.br n).state ≠ .on) : s.takeOcAssertion n = s.recordOc n true := by
  rw [State.takeOcAssertion_eq, if_neg hs]

/-! #### PGn -/

/-- The state with the level of PGn recorded (R32). -/
def State.recordPg (s : State) (n : Branch) (level : Bool) : State := s.updBr n fun r => { r with pgLevel := level }

@[simp] theorem State.br_recordPg (level : Bool) : (s.recordPg n level).br n = { s.br n with pgLevel := level } := by
  simp [State.recordPg]

theorem exec_pgAssertion (h : s.running) (hp : s.pins.pg[n] = false) :
    exec (.pgAssertion n) s =
      .next (State.takePgAssertion { s with pins := s.pins.afterEvent (.pgAssertion n) } n) :=
  congrArg Host.Outcome.next (State.pinEvent_taken h rfl (by simpa using hp))

theorem exec_pgRelease (h : s.running) (hp : s.pins.pg[n] = true) :
    exec (.pgRelease n) s = .next (State.takePgRelease { s with pins := s.pins.afterEvent (.pgRelease n) } n) :=
  congrArg Host.Outcome.next (State.pinEvent_taken h rfl (by simpa using hp))

theorem BranchRec.blankingDone_iff {r : BranchRec} : r.blankingDone = true ↔ r.state = .inrush ∧ r.blanking = none := by
  simp [BranchRec.blankingDone]

/-- Blanking done speaks of the state and the blanking timer, not of the level just recorded. -/
theorem State.takePgAssertion_eq :
    s.takePgAssertion n =
      if (s.br n).blankingDone then (s.recordPg n true).complete n
      else if (s.br n).state = .on then
        { s with branches := s.branches.set n { s.br n with pgLevel := true, pgLoss := none } }
      else s.recordPg n true := by
  simp only [State.takePgAssertion, State.updBr_updBr, State.br_updBr, if_true]
  rfl

/-- In INRUSH with blanking done the assertion is the completion (R42, R45). -/
theorem State.takePgAssertion_effect (hs : (s.br n).state = .inrush) (hb : (s.br n).blanking = none) :
    CompletionEffect (s.recordPg n true) (s.takePgAssertion n) n := by
  rw [State.takePgAssertion_eq, if_pos (BranchRec.blankingDone_iff.mpr ⟨hs, hb⟩)]
  exact State.complete_effect (by simpa using hs)

/-- In ON the assertion ends a PG loss (R50). -/
theorem State.takePgAssertion_on (hs : (s.br n).state = .on) :
    s.takePgAssertion n = { s with branches := s.branches.set n { s.br n with pgLevel := true, pgLoss := none } } := by
  rw [State.takePgAssertion_eq, if_neg (by simp [BranchRec.blankingDone_iff, hs]), if_pos hs]

/-- Outside ON and with blanking not done the assertion is recorded alone: blanking running in INRUSH, or any of the
other states (R42). -/
theorem State.takePgAssertion_recorded (hd : ¬((s.br n).state = .inrush ∧ (s.br n).blanking = none))
    (ho : (s.br n).state ≠ .on) : s.takePgAssertion n = s.recordPg n true := by
  rw [State.takePgAssertion_eq, if_neg (mt BranchRec.blankingDone_iff.mp hd), if_neg ho]

theorem State.takePgRelease_eq :
    s.takePgRelease n =
      if (s.br n).state = .on then
        { s with branches := s.branches.set n
                  { s.br n with pgLevel := false, pgLoss := some (s.pgqual.toNat * 1000) } }
      else s.recordPg n false := by
  simp only [State.takePgRelease, State.updBr_updBr, State.br_updBr, if_true]
  rfl

end DetectorEvents

/-- Settles O31, by the phase that the branch's state is. -/
theorem scAssertionTripsAtOnce : Obligations.ScAssertionTripsAtOnce := by
  intro s n h
  refine ⟨fun hp => ?_, fun hp => exec_scRelease h hp⟩
  rw [exec_scAssertion h hp]
  refine ⟨fun hi => ⟨_, rfl, ?_⟩, fun ho => ⟨_, rfl, ?_⟩, fun hi ho => ?_⟩
  · exact State.takeScAssertion_effect (ph := .inrush) hi
  · exact State.takeScAssertion_effect (ph := .on) ho
  · exact congrArg Host.Outcome.next (State.takeScAssertion_elsewhere hi ho)

/-- Settles O32, by ON and OCQUAL: the timer, the trip, or the level alone. -/
theorem ocAssertionQualifiesInOn : Obligations.OcAssertionQualifiesInOn := by
  intro s n h
  refine ⟨fun hp => ?_, fun hp => exec_ocRelease h hp⟩
  rw [exec_ocAssertion h hp]
  refine ⟨fun hs hq => ?_, fun hs hq => ⟨_, rfl, ?_⟩, fun hs => ?_⟩
  · exact congrArg Host.Outcome.next (State.takeOcAssertion_qualifies hs hq)
  · exact State.takeOcAssertion_effect hs hq
  · exact congrArg Host.Outcome.next (State.takeOcAssertion_elsewhere hs)

/-- Settles O33, by the branch's state and, in INRUSH, whether blanking is done. -/
theorem pgEventsCompleteAndQualify : Obligations.PgEventsCompleteAndQualify := by
  intro s n h
  constructor
  · intro hp
    rw [exec_pgAssertion h hp]
    refine ⟨fun hi hb => ⟨_, rfl, ?_⟩, fun hi hb => ?_, fun ho => ?_, fun hi ho => ?_⟩
    · exact State.takePgAssertion_effect (s := { s with pins := s.pins.afterEvent (.pgAssertion n) }) hi hb
    · have ho : (s.br n).state ≠ .on := by simp [hi]
      exact congrArg Host.Outcome.next (State.takePgAssertion_recorded (fun hd => hb hd.2) ho)
    · exact congrArg Host.Outcome.next (State.takePgAssertion_on ho)
    · exact congrArg Host.Outcome.next (State.takePgAssertion_recorded (fun hd => hi hd.1) ho)
  · intro hp
    rw [exec_pgRelease h hp, State.takePgRelease_eq]
    exact ⟨fun ho => congrArg Host.Outcome.next (if_pos ho), fun ho => congrArg Host.Outcome.next (if_neg ho)⟩

end Sys2Proof.Machine

namespace Sys2Proof.Machine

/-! ### LOGADV and LOGCLR (R134, R135) -/

section LogCommands

variable {s : State}

/-- With RESET# released LOGADV is its command. -/
theorem exec_logAdv (h : s.running) : exec .logAdv s = .next s.logAdvCommand :=
  congrArg Host.Outcome.next (State.whenRunning_running h _)

/-- With RESET# released LOGCLR is its command. -/
theorem exec_logClr (h : s.running) : exec .logClr s = .next s.logClrCommand :=
  congrArg Host.Outcome.next (State.whenRunning_running h _)

theorem State.logAdvCommand_nil (hl : s.log.records = []) : s.logAdvCommand = s.withResult .wrongState := by
  rw [State.logAdvCommand, hl]

theorem State.logAdvCommand_cons {head : LogRecord} {rest : List LogRecord} (hl : s.log.records = head :: rest) :
    s.logAdvCommand = { s with log.records := rest, log.idx := 0 }.withResult .done := by
  rw [State.logAdvCommand, hl]

end LogCommands

/-- Settles O18: LOGADV by whether the log holds a head record, LOGCLR by its definition. -/
theorem logCommandsRemoveRecords : Obligations.LogCommandsRemoveRecords := by
  intro s h
  rw [exec_logAdv h, exec_logClr h]
  refine ⟨fun hempty => ?_, fun head rest hheld => ?_, rfl⟩
  · exact congrArg Host.Outcome.next (State.logAdvCommand_nil hempty)
  · exact congrArg Host.Outcome.next (State.logAdvCommand_cons hheld)

end Sys2Proof.Machine

namespace Sys2Proof.Machine

/-! ### SIGN (R150) -/

theorem branchArgument_eq_some {v : Byte} {b : Branch} : branchArgument v = some b ↔ v.toNat = b.val + 1 :=
  branchOf_eq_some

theorem branchArgument_eq_none {v : Byte} : branchArgument v = none ↔ v.toNat = 0 ∨ 8 < v.toNat :=
  branchOf_eq_none

section SignCommand

variable {s : State} {first more last : Branch}

/-- With RESET# released SIGN is its command. -/
theorem exec_sign (h : s.running) : exec .sign s = .next s.signCommand :=
  congrArg Host.Outcome.next (State.whenRunning_running h _)

theorem State.signCommand_badArg
    (h : branchArgument s.window.arg0 = none ∨ branchArgument s.window.arg1 = none) :
    s.signCommand = s.withResult .badArg := by
  unfold State.signCommand
  split
  next _ _ h0 h1 => simp [h0, h1] at h
  next => rfl

theorem State.signCommand_busy (h0 : branchArgument s.window.arg0 = some first)
    (h1 : branchArgument s.window.arg1 = some more) (hr : s.sig.state = .running) :
    s.signCommand = s.withResult .busy := by
  simp only [State.signCommand, h0, h1, if_pos hr]

theorem State.signCommand_done (h0 : branchArgument s.window.arg0 = some first)
    (h1 : branchArgument s.window.arg1 = some more) (hr : s.sig.state ≠ .running) :
    s.signCommand = (s.startSignature first more).withResult .done := by
  simp only [State.signCommand, h0, h1, if_neg hr]

/-- The operation starts over any range whose last branch is the clamped one. -/
theorem State.startSignature_eq (hlast : last.val = min (first.val + more.val) 7) :
    s.startSignature first more =
      { s with sig := { state := .running, first := first, last := last, progress := some first, crc := 0xFFFF,
                        timer := some 16 } } := by
  have clamped : (⟨min (first.val + more.val) 7, by omega⟩ : Branch) = last := Fin.ext hlast.symm
  rw [State.startSignature, clamped]
  rfl

end SignCommand

/-- Settles O48, by the checks of R150 in their order: the arguments, then the engine state. ARG1 counts the records, so
as a branch argument it is one below the count, as the clamped sum needs it. -/
theorem signStartsOrRefuses : Obligations.SignStartsOrRefuses := by
  intro s h
  rw [exec_sign h]
  refine ⟨fun hout => ?_, fun first last h0 hlow hhigh hlast => ?_⟩
  · have refused : branchArgument s.window.arg0 = none ∨ branchArgument s.window.arg1 = none := by
      rw [branchArgument_eq_none, branchArgument_eq_none]
      omega
    exact congrArg Host.Outcome.next (State.signCommand_badArg refused)
  · obtain ⟨more, h1⟩ : ∃ more : Branch, s.window.arg1.toNat = more.val + 1 :=
      ⟨⟨s.window.arg1.toNat - 1, by omega⟩, (Nat.sub_add_cancel hlow).symm⟩
    have arg0 := branchArgument_eq_some.mpr h0
    have arg1 := branchArgument_eq_some.mpr h1
    refine ⟨fun hr => congrArg Host.Outcome.next (State.signCommand_busy arg0 arg1 hr), fun hr => ?_⟩
    have clamped : last.val = min (first.val + more.val) 7 := by omega
    rw [State.signCommand_done arg0 arg1 hr, State.startSignature_eq clamped]
    rfl

end Sys2Proof.Machine

namespace Sys2Proof.Machine

/-! ### Locations that refuse writes, and locations that read 00h (R160) -/

/-- The locations of access R in the map (section 11.2). -/
def readOnlyLocations : List Nat :=
  [0x0C, 0x0D, 0x0E, 0x0F, 0x19, 0x1A, 0x1B, 0x1D, 0x1E, 0x1F, 0x20, 0x22, 0x23, 0x24, 0x25, 0x26, 0x29, 0x2A]

/-- A location of access R, or one that is not implemented. -/
def refusesWrites (loc : Loc) : Prop := loc.toNat ∈ readOnlyLocations ∨ 0x2B ≤ loc.toNat

/-- The profile stands at 04h to 0Bh. -/
theorem profileFieldAt_eq_none {loc : Loc} (h : loc.toNat < 0x04 ∨ 0x0B < loc.toNat) : profileFieldAt loc = none := by
  unfold profileFieldAt
  split <;> simp <;> omega

section RefusedWrites

variable {s : State} {loc : Loc} {v : Byte}

theorem profileFieldAt_of_refusesWrites (h : refusesWrites loc) : profileFieldAt loc = none := by
  have above : ∀ n ∈ readOnlyLocations, 0x0B < n := by decide
  rcases h with hread | hbeyond
  · exact profileFieldAt_eq_none (.inr (above _ hread))
  · exact profileFieldAt_eq_none (.inr (by omega))

/-- No location that `writeOther` has a rule for refuses writes. -/
theorem State.writeOther_readonly (h : refusesWrites loc) : s.writeOther loc v = s.withWstat .readonly := by
  unfold State.writeOther
  split
  case h_12 => rfl
  all_goals next hloc => simp [refusesWrites, readOnlyLocations, hloc] at h

/-- No location with a row of its own for its writes refuses them. -/
theorem State.writeLocation_readonly (h : refusesWrites loc) : s.writeLocation loc v = s.withWstat .readonly := by
  unfold State.writeLocation
  rw [profileFieldAt_of_refusesWrites h]
  dsimp only
  split
  case h_7 => exact State.writeOther_readonly h
  all_goals next hloc => simp [refusesWrites, readOnlyLocations, hloc] at h

/-- Every location that `readLocation` has an item for is below 2Bh. -/
theorem State.readLocation_unimplemented (h : 0x2B ≤ loc.toNat) : s.readLocation loc = 0 := by
  unfold State.readLocation
  split
  · rfl
  · dsimp only
    split
    case h_44 => rfl
    all_goals omega

theorem State.readLocation_wstat (h : s.running) : s.readLocation 0x0F = BitVec.ofNat 8 s.window.wstat.code := by
  have h : s.pins.reset = false := h
  simp [State.readLocation, h]

end RefusedWrites

/-! ### What keeps WSTAT: every command of R164 -/

section KeepWstat

variable (s : State) (b : Branch)

@[simp] theorem State.endFlightOf_window : (s.endFlightOf b).window = s.window := by
  rw [State.endFlightOf_eq]

@[simp] theorem State.closeCommand_wstat : s.closeCommand.window.wstat = s.window.wstat := by
  unfold State.closeCommand
  cases branchArgument s.window.arg0 with
  | none => rfl
  | some c =>
    dsimp only
    split
    · rfl
    · split <;> simp

@[simp] theorem State.openBranch_wstat : (s.openBranch b).window.wstat = s.window.wstat := by
  unfold State.openBranch
  cases (s.br b).state <;> simp

@[simp] theorem State.openCommand_wstat : s.openCommand.window.wstat = s.window.wstat := by
  unfold State.openCommand
  split <;> simp

@[simp] theorem State.rearmCommand_wstat : s.rearmCommand.window.wstat = s.window.wstat := by
  unfold State.rearmCommand
  cases branchArgument s.window.arg0 with
  | none => rfl
  | some c => dsimp only; split <;> simp

@[simp] theorem State.allOffCommand_wstat : s.allOffCommand.window.wstat = s.window.wstat := rfl

@[simp] theorem State.foldl_joinQueue_window (l : List Branch) : (l.foldl State.joinQueue s).window = s.window := by
  induction l generalizing s with
  | nil => rfl
  | cons c l ih => rw [List.foldl_cons, ih, State.joinQueue_window]

@[simp] theorem State.takeRestart_window : s.takeRestart.window = s.window := by
  unfold State.takeRestart
  dsimp only
  rw [State.foldl_joinQueue_window, State.offer_window]
  split <;> simp

@[simp] theorem State.restartCommand_wstat : s.restartCommand.window.wstat = s.window.wstat := by
  unfold State.restartCommand
  split <;> simp

@[simp] theorem State.signCommand_wstat : s.signCommand.window.wstat = s.window.wstat := by
  unfold State.signCommand
  split
  · split <;> rfl
  · rfl

@[simp] theorem State.digestClrCommand_wstat : s.digestClrCommand.window.wstat = s.window.wstat := rfl

@[simp] theorem State.logAdvCommand_wstat : s.logAdvCommand.window.wstat = s.window.wstat := by
  unfold State.logAdvCommand
  split <;> rfl

@[simp] theorem State.logClrCommand_wstat : s.logClrCommand.window.wstat = s.window.wstat := rfl

/-- A write to 00h answers in RESULT and leaves WSTAT. -/
@[simp] theorem State.writeCmd_wstat (code : Byte) : (s.writeCmd code).window.wstat = s.window.wstat := by
  unfold State.writeCmd
  split <;> simp

end KeepWstat

/-- The command of a code does what a write of the code to 00h does. -/
theorem exec_codeCommand {s : State} (h : s.running) (code : Byte) :
    exec (codeCommand code) s = .next (s.writeCmd code) := by
  have row : exec (codeCommand code) s = .next (s.whenRunning fun s => s.writeCmd code) := by
    unfold codeCommand
    split
    case h_10 => rfl
    all_goals next hcode => simp only [State.writeCmd, hcode]; rfl
  rw [row, State.whenRunning_running h]

theorem exec_irqpendAcknowledge {s : State} (h : s.running) (v : Byte) :
    exec (.irqpendAcknowledge v) s = .next (s.acknowledge v) :=
  congrArg Host.Outcome.next (State.whenRunning_running h _)

theorem State.acknowledge_wstat (s : State) (v : Byte) :
    (s.acknowledge v).window.wstat = if sourcesInRange v then .ok else .range := by
  unfold State.acknowledge
  split <;> rfl

/-- Settles O29: writes and reads by the lists of locations, a command of R164 by what it leaves unchanged, an
acknowledge by its two answers. -/
theorem readOnlyLocationsRefuseWrites : Obligations.ReadOnlyLocationsRefuseWrites := by
  intro s v h
  refine ⟨fun loc hloc => ?_, fun loc => State.readLocation_unimplemented, ?_, ?_⟩
  · exact ⟨_, exec_registerWrite_readonly h (State.writeLocation_readonly hloc), rfl, State.readLocation_wstat h⟩
  · exact ⟨_, exec_codeCommand h v, State.writeCmd_wstat s v⟩
  · refine ⟨_, exec_irqpendAcknowledge h v, ?_⟩
    rw [State.acknowledge_wstat]
    split <;> decide

end Sys2Proof.Machine

namespace Sys2Proof.Machine

/- The declarations are elaborated one after another: side by side, each waiting for the ones before it, they would need
a thread each and more memory than the check gives. -/
set_option Elab.async false

/-! ### What a command does, with RESET# released and with it held (R1, R77, R121) -/

/-- What follows from the tick or from a due grant, with RESET# released: taken only while CLKIN runs (R1, R77). -/
def State.whenTicking (s : State) (f : State → State) : State := if s.pins.clkin then f s else s

/-- What each command does with RESET# released. A pin event is taken at a pin that changes its level (log 7). -/
def State.taken (s : State) : Instr → State
  | .close => s.closeCommand
  | .openBranch => s.openCommand
  | .rearm => s.rearmCommand
  | .allOff => s.allOffCommand
  | .restart => s.restartCommand
  | .sign => s.signCommand
  | .digestClr => s.digestClrCommand
  | .logAdv => s.logAdvCommand
  | .logClr => s.logClrCommand
  | .unknownCommand code => s.writeCmd code
  | .msloRead => s.readMslo
  | .logdataRead => s.readLogdata
  | .profileWrite f v => s.writeProfile f v
  | .prescaleWrite v => s.writePrescale v
  | .slotsWrite v => s.writeSlots v
  | .irqpendAcknowledge v => s.acknowledge v
  | .irqenWrite v => s.writeIrqen v
  | .logthrWrite v => s.writeLogthr v
  | .registerWrite loc v => s.writeLocation loc v
  | .scAssertion n =>
    if s.pins.sc[n] then s else State.takeScAssertion { s with pins := s.pins.afterEvent (.scAssertion n) } n
  | .scRelease n =>
    if !s.pins.sc[n] then s else State.recordSc { s with pins := s.pins.afterEvent (.scRelease n) } n false
  | .ocAssertion n =>
    if s.pins.oc[n] then s else State.takeOcAssertion { s with pins := s.pins.afterEvent (.ocAssertion n) } n
  | .ocRelease n =>
    if !s.pins.oc[n] then s else State.takeOcRelease { s with pins := s.pins.afterEvent (.ocRelease n) } n
  | .pgAssertion n =>
    if s.pins.pg[n] then s else State.takePgAssertion { s with pins := s.pins.afterEvent (.pgAssertion n) } n
  | .pgRelease n =>
    if !s.pins.pg[n] then s else State.takePgRelease { s with pins := s.pins.afterEvent (.pgRelease n) } n
  | .stressInputAssertion i =>
    if s.pins.stressPin i then s else State.takeStressAssertion { s with pins := s.pins.setStressPin i true } i
  | .stressInputRelease i =>
    if !s.pins.stressPin i then s else State.takeStressRelease { s with pins := s.pins.setStressPin i false } i
  | .estopAssertion => if s.pins.estop then s else State.takeEstopAssertion { s with pins.estop := true }
  | .estopRelease => if !s.pins.estop then s else { s with pins.estop := false, estop := false }
  | .resetAssertion => State.holdReset { s with pins.reset := true }
  | .hardwareReset => s.releaseReset
  | .millisecondBoundary => s.whenTicking State.takeMsBoundary
  | .ocQualifyExpiry n => s.whenTicking (·.expireOcQualify n)
  | .pgLossExpiry n => s.whenTicking (·.expirePgLoss n)
  | .blankingExpiry n => s.whenTicking (·.expireBlanking n)
  | .riseExpiry n => s.whenTicking (·.expireRise n)
  | .deadExpiry n => s.whenTicking (·.expireDead n)
  | .settleExpiry n => s.whenTicking (·.expireSettle n)
  | .staggerExpiry => s.whenTicking State.expireStagger
  | .stressQualifyExpiry => s.whenTicking State.expireStressQualify
  | .shedIntervalExpiry => s.whenTicking State.expireShedInterval
  | .holdExpiry => s.whenTicking State.expireHold
  | .restoreSpacingExpiry => s.whenTicking State.expireSpacing
  | .signatureRecordExpiry => s.whenTicking State.expireSignature
  | .grant => s.whenTicking fun s => if s.grantCondition then s.takeGrant else s

section Taken

variable {s : State}

theorem State.whenTicking_clocked (h : s.clocked) (f : State → State) : s.whenTicking f = f s := if_pos h.2

theorem State.whenClocked_running (h : s.running) (f : State → State) : s.whenClocked f = s.whenTicking f := by
  have h : s.pins.reset = false := h
  cases hc : s.pins.clkin <;> simp [State.whenClocked, State.whenTicking, h, hc]

/-- With RESET# released a pin event is nothing at a pin that has its level, else the pin and then the event (log 7). -/
theorem State.pinEvent_running (h : s.running) {p : Prop} [Decidable p] {pins : Pins} {f : State → State}
    (hpins : pins.reset = s.pins.reset) :
    (if p then s else State.whenRunning { s with pins := pins } f) = if p then s else f { s with pins := pins } := by
  rw [State.whenRunning_running (hpins.trans h)]

/-- With RESET# released every command has its meaning. -/
theorem exec_running (h : s.running) (c : Instr) : exec c s = .next (s.taken c) := by
  have hr : s.pins.reset = false := h
  cases c with
  | msloRead | logdataRead | resetAssertion => exact congrArg Host.Outcome.next (if_neg (by simp [hr]))
  | hardwareReset => rfl
  | close | openBranch | rearm | allOff | restart | sign | digestClr | logAdv | logClr | unknownCommand _
  | profileWrite _ _ | prescaleWrite _ | slotsWrite _ | irqpendAcknowledge _ | irqenWrite _ | logthrWrite _
  | registerWrite _ _ => exact congrArg Host.Outcome.next (State.whenRunning_running h _)
  | stressInputAssertion i | stressInputRelease i =>
    cases i <;> exact congrArg Host.Outcome.next (State.pinEvent_running h rfl)
  | scAssertion _ | scRelease _ | ocAssertion _ | ocRelease _ | pgAssertion _ | pgRelease _ | estopAssertion
  | estopRelease => exact congrArg Host.Outcome.next (State.pinEvent_running h rfl)
  | millisecondBoundary | ocQualifyExpiry _ | pgLossExpiry _ | blankingExpiry _ | riseExpiry _ | deadExpiry _
  | settleExpiry _ | staggerExpiry | stressQualifyExpiry | shedIntervalExpiry | holdExpiry | restoreSpacingExpiry
  | signatureRecordExpiry | grant => exact congrArg Host.Outcome.next (State.whenClocked_running h _)

/-- Every command has a next state, as every arm of `exec` is one. -/
theorem exec_next (c : Instr) (s : State) : ∃ t, exec c s = .next t := by
  cases c <;> exact ⟨_, rfl⟩

/-- A vector with an entry set to what it is already is the same. -/
theorem set_eq_self_of_getElem_eq {n : Nat} {v : Vector Bool n} {i : Fin n} {b : Bool} (h : v[i] = b) :
    v.set i b = v := by
  subst h
  simp

/-- The pins after an event at a pin that has its level already (log 7). -/
theorem Pins.setStressPin_of_eq {p : Pins} {i : StressInput} {b : Bool} (h : p.stressPin i = b) :
    p.setStressPin i b = p := by
  subst h
  cases i <;> rfl

/-- While RESET# is held a pin event is the pin alone, also at a pin that has its level already. -/
theorem State.pinEvent_held (h : s.pins.reset = true) {p : Prop} [Decidable p] {pins : Pins} {f : State → State}
    (hpins : pins.reset = s.pins.reset) (hp : p → pins = s.pins) :
    (if p then s else State.whenRunning { s with pins := pins } f) = { s with pins := pins } := by
  split
  next hlevel => rw [hp hlevel]
  next => exact State.whenRunning_held (hpins.trans h) f

/-- While RESET# is held a command changes its own pin, and a read command the value last read (R54, R110, R121). -/
theorem exec_held (h : s.pins.reset = true) {c : Instr} (hc : c ≠ .hardwareReset) :
    exec c s = .next
      { s with
        pins := s.pins.afterEvent c
        window.dataOut := if c = .msloRead ∨ c = .logdataRead then 0 else s.window.dataOut } := by
  cases c with
  | hardwareReset => exact absurd rfl hc
  | msloRead | logdataRead => exact congrArg Host.Outcome.next (if_pos h)
  | resetAssertion =>
    refine congrArg Host.Outcome.next ((if_pos h).trans ?_)
    simp [Pins.afterEvent, ← h]
  | close | openBranch | rearm | allOff | restart | sign | digestClr | logAdv | logClr | unknownCommand _
  | profileWrite _ _ | prescaleWrite _ | slotsWrite _ | irqpendAcknowledge _ | irqenWrite _ | logthrWrite _
  | registerWrite _ _ => exact congrArg Host.Outcome.next (State.whenRunning_held h _)
  | scAssertion _ | ocAssertion _ | pgAssertion _ =>
    refine congrArg Host.Outcome.next (State.pinEvent_held h rfl fun hp => ?_)
    simp [set_eq_self_of_getElem_eq hp]
  | scRelease _ | ocRelease _ | pgRelease _ =>
    refine congrArg Host.Outcome.next (State.pinEvent_held h rfl fun hp => ?_)
    simp [set_eq_self_of_getElem_eq (Bool.not_eq_true' _ ▸ hp)]
  | stressInputAssertion i =>
    refine congrArg Host.Outcome.next (State.pinEvent_held h (by cases i <;> rfl) fun hp => ?_)
    exact Pins.setStressPin_of_eq hp
  | stressInputRelease i =>
    refine congrArg Host.Outcome.next (State.pinEvent_held h (by cases i <;> rfl) fun hp => ?_)
    exact Pins.setStressPin_of_eq (by simpa using hp)
  | estopAssertion =>
    refine congrArg Host.Outcome.next (State.pinEvent_held h rfl fun hp => ?_)
    simp [← hp]
  | estopRelease =>
    refine congrArg Host.Outcome.next (State.pinEvent_held h rfl fun hp => ?_)
    have hp : s.pins.estop = false := by simpa using hp
    simp [← hp]
  | millisecondBoundary | ocQualifyExpiry _ | pgLossExpiry _ | blankingExpiry _ | riseExpiry _ | deadExpiry _
  | settleExpiry _ | staggerExpiry | stressQualifyExpiry | shedIntervalExpiry | holdExpiry | restoreSpacingExpiry
  | signatureRecordExpiry | grant => exact congrArg Host.Outcome.next (State.whenClocked_stopped (.inl h) _)

end Taken

/-! ### The log takes lawful offers (R124, R126, R128) -/

/-- The record as which an offer is stored. -/
def Offer.stored (o : Offer) (seq : Byte) (now : Half) (gap : Option Byte) : LogRecord :=
  { seq := seq, kind := o.kind, branch := o.branch, cause := o.cause, detail := o.detail, phase := o.phase, time := now,
    gap := gap }

/-- An offer whose fields are present by its kind. -/
def Offer.lawful (o : Offer) : Prop := (o.stored 0 0 none).lawful

theorem Offer.lawful.stored {o : Offer} (h : o.lawful) {seq : Byte} {now : Half} {gap : Option Byte}
    (hg : gap ≠ some 0) : (o.stored seq now gap).lawful := by
  obtain ⟨hbranch, hphase, hcause, -⟩ := h
  exact ⟨hbranch, hphase, hcause, hg⟩

theorem tripOffer_lawful (r : BranchRec) (b : Branch) (cause : TripCause) (ph : Phase) :
    (tripOffer r b cause ph).lawful := by
  unfold tripOffer
  split <;> exact ⟨by simp [Offer.stored], by simp [Offer.stored], by simp [Offer.stored], by simp [Offer.stored]⟩

section LogLaw

variable {l : EventLog}

/-- A stored record carries the counter's number, and the counter moves on by one. -/
theorem EventLog.lawful.take (h : l.lawful) {o : Offer} (ho : o.lawful) (now : Half) : (l.take o now).lawful := by
  obtain ⟨hlen, hseq, hrec⟩ := h
  by_cases hroom : l.records.length < 16
  · rw [EventLog.take_room hroom]
    refine ⟨by simp [Config.logCapacity]; omega, ?_, ?_⟩
    · simp only [List.map_append, hseq, List.map_cons, List.map_nil, List.length_append, List.length_singleton,
        List.range_succ]
      refine congrArg₂ _ (List.map_congr_left fun i hi => ?_) ?_
      · have hi : i < l.records.length := List.mem_range.mp hi
        rw [show l.records.length + 1 - i = (l.records.length - i) + 1 by omega, BitVec.ofNat_add]
        generalize BitVec.ofNat 8 (l.records.length - i) = k
        bv_omega
      · simp
    · intro r hr
      rcases List.mem_append.mp hr with hr | hr
      · exact hrec r hr
      · obtain rfl := List.mem_singleton.mp hr
        exact ho.stored (by split <;> simp_all)
  · rw [EventLog.take_full (by omega)]
    exact ⟨hlen, hseq, hrec⟩

/-- Removing the head leaves the numbers of the others where they are. -/
theorem EventLog.lawful.tail (h : l.lawful) {head : LogRecord} {rest : List LogRecord} (hl : l.records = head :: rest)
    (i : Fin 9) : EventLog.lawful { l with records := rest, idx := i } := by
  obtain ⟨hlen, hseq, hrec⟩ := h
  rw [hl] at hlen hseq hrec
  refine ⟨by simp at hlen ⊢; omega, ?_, fun r hr => hrec r (List.mem_cons_of_mem _ hr)⟩
  have := congrArg List.tail hseq
  simpa [List.range_succ_eq_map, List.map_map, Function.comp_def] using this

end LogLaw

/-! ### The digest takes notices (R140) -/

@[simp] theorem Digest.mem_members {d : Digest} {b : Branch} : b ∈ d.members ↔ d.trips[b] = true := by
  simp [Digest.members]

/-- After a notice the branch is a member, and the first-tripped branch is present. -/
theorem Digest.lawful.notice {d : Digest} (h : d.lawful) (b : Branch) : (d.notice b).lawful := by
  obtain ⟨-, hfirst⟩ := h
  have hb : b ∈ (d.notice b).members := by simp [Digest.notice]
  have keep : ∀ c ∈ d.members, c ∈ (d.notice b).members := fun c hc => by
    have hc : d.trips[c] = true := Digest.mem_members.mp hc
    simp only [Fin.getElem_fin] at hc
    simp [Digest.notice, Vector.getElem_set, hc]
  refine ⟨⟨fun hn => by simp [Digest.notice] at hn, fun hn => ?_⟩, fun c hc => ?_⟩
  · rw [hn] at hb
    simp at hb
  · cases hd : d.first with
    | none => simp [Digest.notice, hd] at hc; exact hc ▸ hb
    | some e => simp [Digest.notice, hd] at hc; exact keep c (hfirst c (hc ▸ hd))

theorem Digest.default_lawful : Digest.default.lawful := by
  unfold Digest.lawful; decide

/-! ### What sequencing leaves alone

The reclose sequencer, the arbiter and the load manager move branches between their states, with the queue, the stack,
their timers, the interrupts and the results that go with it. Everything else a state holds is its frame. -/

/-- What of a branch record no change of state touches: the profile and the level records (R22, R32). -/
def BranchRec.inputs (r : BranchRec) : BranchRec :=
  { BranchRec.default with
    profile := r.profile, scLevel := r.scLevel, ocLevel := r.ocLevel, pgLevel := r.pgLevel }

@[simp] theorem BranchRec.cancelTimers_inputs (r : BranchRec) : r.cancelTimers.inputs = r.inputs := by
  unfold BranchRec.cancelTimers
  split <;> rfl

@[simp] theorem BranchRec.moveTo_inputs (r : BranchRec) (st : BranchState) : (r.moveTo st).inputs = r.inputs :=
  r.cancelTimers_inputs

@[simp] theorem BranchRec.toOff_inputs (r : BranchRec) : r.toOff.inputs = r.inputs :=
  r.cancelTimers_inputs

@[simp] theorem BranchRec.tripped_inputs (r : BranchRec) (cause : TripCause) : (r.tripped cause).inputs = r.inputs := by
  unfold BranchRec.tripped
  split <;> exact r.cancelTimers_inputs

@[simp] theorem BranchRec.startSettle_inputs (r : BranchRec) : r.startSettle.inputs = r.inputs := by
  unfold BranchRec.startSettle
  split <;> rfl

/-- The state with all that sequencing moves at fixed values. -/
def State.frame (s : State) : State :=
  { s with
    branches := Vector.ofFn fun b : Branch => (s.br b).inputs
    arbiter := s.arbiter.emptied
    load := s.load.calmed
    log := { EventLog.default with thr := s.log.thr }
    digest := Digest.default
    irq := Interrupts.default
    window := { Window.default with dataOut := s.window.dataOut, driving := s.window.driving } }

/-- Two states have the same frame if they agree in each part of it. -/
theorem State.frame_congr {s t : State} (hb : ∀ b, (t.br b).inputs = (s.br b).inputs)
    (ha : t.arbiter.emptied = s.arbiter.emptied) (hl : t.load.calmed = s.load.calmed) (hthr : t.log.thr = s.log.thr)
    (hout : t.window.dataOut = s.window.dataOut) (hdrive : t.window.driving = s.window.driving)
    (hrest : t.time = s.time ∧ t.pgqual = s.pgqual ∧ t.estop = s.estop ∧ t.sig = s.sig ∧ t.pins = s.pins
      ∧ t.free = s.free ∧ t.grantWait = s.grantWait ∧ t.pending = s.pending) : t.frame = s.frame := by
  obtain ⟨htime, hpgqual, hestop, hsig, hpins, hfree, hwait, hpending⟩ := hrest
  simp only [State.frame, hb, ha, hl, hthr, hout, hdrive, htime, hpgqual, hestop, hsig, hpins, hfree, hwait, hpending]

/-- What sequencing may do: the frame stays, the log takes lawful offers, the digest takes notices. -/
structure SequencerChange (s t : State) : Prop where
  frame : t.frame = s.frame
  log : s.log.lawful → t.log.lawful
  digest : s.digest.lawful → t.digest.lawful

namespace SequencerChange

variable {s t u : State}

theorem refl (s : State) : SequencerChange s s := ⟨rfl, id, id⟩

theorem trans (h : SequencerChange s t) (h' : SequencerChange t u) : SequencerChange s u :=
  ⟨h'.frame.trans h.frame, h'.log ∘ h.log, h'.digest ∘ h.digest⟩

/-- A change that neither offers a record nor gives a notice. -/
theorem of_frame (h : t.frame = s.frame) (hl : t.log = s.log) (hd : t.digest = s.digest) : SequencerChange s t :=
  ⟨h, fun hs => hl ▸ hs, fun hs => hd ▸ hs⟩

theorem offer (s : State) {o : Offer} (ho : o.lawful) : SequencerChange s (s.offer o) :=
  ⟨State.frame_congr (fun _ => rfl) rfl rfl (by simp) rfl rfl ⟨rfl, rfl, rfl, rfl, rfl, rfl, rfl, rfl⟩,
    fun h => h.take ho _, id⟩

theorem notice (s : State) (b : Branch) : SequencerChange s { s with digest := s.digest.notice b } :=
  ⟨rfl, id, fun h => h.notice b⟩

theorem setBr (s : State) {b : Branch} {r : BranchRec} (h : r.inputs = (s.br b).inputs) :
    SequencerChange s (s.setBr b r) := by
  refine of_frame (State.frame_congr (fun c => ?_) rfl rfl rfl rfl rfl ⟨rfl, rfl, rfl, rfl, rfl, rfl, rfl, rfl⟩) rfl rfl
  rw [State.br_setBr]
  split
  next hc => rw [h, hc]
  next => rfl

theorem updBr (s : State) {b : Branch} {f : BranchRec → BranchRec} (h : ∀ r, (f r).inputs = r.inputs) :
    SequencerChange s (s.updBr b f) := setBr s (h _)

theorem mapBr (s : State) {f : BranchRec → BranchRec} (h : ∀ r, (f r).inputs = r.inputs) :
    SequencerChange s (s.mapBr f) := by
  refine of_frame (State.frame_congr (fun c => ?_) rfl rfl rfl rfl rfl ⟨rfl, rfl, rfl, rfl, rfl, rfl, rfl, rfl⟩) rfl rfl
  rw [State.br_mapBr, h]

/-- A rearrangement of queue, slots, load manager and interrupts, checked part by part. -/
theorem rearranged (h : SequencerChange s t) (hb : u.branches = t.branches := by rfl)
    (ha : u.arbiter.emptied = t.arbiter.emptied := by rfl) (hl : u.load.calmed = t.load.calmed := by rfl)
    (hlog : u.log = t.log := by rfl) (hd : u.digest = t.digest := by rfl) (hw : u.window = t.window := by rfl)
    (hrest : u.time = t.time ∧ u.pgqual = t.pgqual ∧ u.estop = t.estop ∧ u.sig = t.sig ∧ u.pins = t.pins
      ∧ u.free = t.free ∧ u.grantWait = t.grantWait ∧ u.pending = t.pending := by
        exact ⟨rfl, rfl, rfl, rfl, rfl, rfl, rfl, rfl⟩) : SequencerChange s u :=
  h.trans (of_frame (State.frame_congr (fun b => by rw [State.br_congr hb]) ha hl (hlog ▸ rfl) (hw ▸ rfl) (hw ▸ rfl)
    hrest) hlog hd)

theorem releaseSlot (s : State) : SequencerChange s s.releaseSlot := (refl s).rearranged

theorem irq (s : State) (q : Interrupts) : SequencerChange s { s with irq := q } := of_frame rfl rfl rfl

theorem latch (s : State) (src : Source) : SequencerChange s (s.latch src) := irq s _

theorem withResult (s : State) (c : ResultCode) : SequencerChange s (s.withResult c) := of_frame rfl rfl rfl

theorem withWstat (s : State) (c : WriteStatus) : SequencerChange s (s.withWstat c) := of_frame rfl rfl rfl

theorem joinQueue (s : State) (b : Branch) : SequencerChange s (s.joinQueue b) :=
  (updBr s fun r => r.moveTo_inputs .queued).rearranged

theorem endFlightOf (s : State) (b : Branch) : SequencerChange s (s.endFlightOf b) := by
  unfold State.endFlightOf
  split
  · exact (refl s).rearranged (hl := by simp only [LoadManager.endFlight]; split <;> rfl)
  · exact refl s

/-- The two arms of a choice. -/
theorem ite {p : Prop} [Decidable p] (h : p → SequencerChange s t) (h' : ¬p → SequencerChange s u) :
    SequencerChange s (if p then t else u) := by
  split
  next hp => exact h hp
  next hp => exact h' hp

end SequencerChange

section SequencerOperations

variable (s : State) (b : Branch)

theorem State.takeTrip_change (cause : TripCause) (ph : Phase) : SequencerChange s (s.takeTrip b cause ph) := by
  have record := SequencerChange.setBr s (b := b) ((s.br b).tripped_inputs cause)
  have slot : SequencerChange s
      (if ph = .inrush then (s.setBr b ((s.br b).tripped cause)).releaseSlot else s.setBr b ((s.br b).tripped cause)) :=
    .ite (fun _ => record.trans (.releaseSlot _)) (fun _ => record)
  have offered := (((slot.trans (.notice _ b)).trans (.latch _ .trip)).trans (.endFlightOf _ b)).trans
    (.offer _ (tripOffer_lawful (s.br b) b cause ph))
  exact .ite (fun _ => offered) (fun _ => offered.trans (.latch _ .lock))

theorem State.enterInrush_change : SequencerChange s (s.enterInrush b) :=
  .ite (fun _ => (SequencerChange.setBr s ((s.br b).moveTo_inputs .inrush)).trans (State.takeTrip_change _ b _ _))
    (fun _ => .setBr s ((s.br b).moveTo_inputs .inrush))

theorem State.overcurrent_change : SequencerChange s (s.overcurrent b) :=
  .ite (fun _ => s.takeTrip_change b _ _) (fun _ => .updBr s fun _ => rfl)

theorem State.examineAtOn_change : SequencerChange s (s.examineAtOn b) :=
  .ite (fun _ => s.takeTrip_change b _ _) fun _ => .ite (fun _ => s.overcurrent_change b) (fun _ => .refl s)

theorem State.complete_change : SequencerChange s (s.complete b) := by
  have on : SequencerChange s (s.updBr b fun r => (r.moveTo .on).startSettle) :=
    .updBr s fun r => by rw [BranchRec.startSettle_inputs, BranchRec.moveTo_inputs]
  exact ((on.trans (.releaseSlot _)).trans (.endFlightOf _ b)).trans (State.examineAtOn_change _ b)

theorem State.takeGrant_change : SequencerChange s s.takeGrant := by
  unfold State.takeGrant
  cases s.arbiter.queue with
  | nil => exact .refl s
  | cons c rest =>
    dsimp only
    have taken : SequencerChange s { s with arbiter.queue := rest, arbiter.inrushCount := s.arbiter.inrushCount + 1 } :=
      (SequencerChange.refl s).rearranged
    have entered := taken.trans (State.enterInrush_change _ c)
    exact .ite (fun _ => entered) (fun _ => entered.rearranged)

/-- The records of the load manager and of the restart have the fields of their kinds. -/
theorem branchOffer_lawful {k : RecordKind} (hk : k ∈ [RecordKind.shed, .restore, .drop, .recall]) (b : Branch)
    (n : Nat) :
    Offer.lawful { kind := k, branch := some b, cause := none, detail := n, phase := none } := by
  unfold Offer.lawful LogRecord.lawful Offer.stored
  cases k <;> simp_all

theorem partOffer_lawful {k : RecordKind} (hk : k ∈ [RecordKind.exhausted, .restart]) (n : Nat) :
    Offer.lawful { kind := k, branch := none, cause := none, detail := n, phase := none } := by
  unfold Offer.lawful LogRecord.lawful Offer.stored
  cases k <;> simp_all

theorem State.shedVictim_change (v : Branch) : SequencerChange s (s.shedVictim v) := by
  have moved : SequencerChange s (s.updBr v (·.moveTo .shed)) := .updBr s fun r => r.moveTo_inputs .shed
  unfold State.shedVictim
  dsimp only
  split
  · refine .trans ?_ (.latch _ _)
    refine .trans ?_ (.offer _ (branchOffer_lawful (by decide) _ _))
    refine .trans ?_ (.updBr _ fun r => r.toOff_inputs)
    refine .trans ?_ (.offer _ (branchOffer_lawful (by decide) _ _))
    exact moved.rearranged
  · refine .trans ?_ (.offer _ (branchOffer_lawful (by decide) _ _))
    exact moved.rearranged

theorem State.exhaust_change : SequencerChange s s.exhaust :=
  .ite (fun _ => .refl s) fun _ =>
    ((SequencerChange.offer s (partOffer_lawful (k := .exhausted) (by decide) 0)).trans (.latch _ .shedLoss)).rearranged

theorem State.shedStep_change : SequencerChange s s.shedStep := by
  unfold State.shedStep
  split
  · exact s.shedVictim_change _
  · exact s.exhaust_change

theorem State.startShedding_change : SequencerChange s s.startShedding := by
  refine .trans ?_ (State.shedStep_change _)
  exact (SequencerChange.refl s).rearranged

theorem State.recall_change : SequencerChange s s.recall := by
  have landed : SequencerChange s { s with load.spacingTimer := none, load.inFlight := none } :=
    (SequencerChange.refl s).rearranged
  unfold State.recall
  cases s.load.inFlight with
  | none => exact landed
  | some c =>
    refine .ite (fun _ => ?_) (fun _ => landed)
    have left : SequencerChange s (State.leaveQueue { s with load.spacingTimer := none, load.inFlight := none } c) :=
      landed.rearranged
    have shed := left.trans (.updBr _ (b := c) fun r => r.moveTo_inputs .shed)
    refine .trans ?_ (.offer _ (branchOffer_lawful (by decide) _ _))
    exact shed.rearranged

/-- A rise of qualified stress is the flag and then sequencing. -/
theorem State.qualifiedRise_change {t : State} (h : t = { s with load.qualified := true }) :
    SequencerChange t s.qualifiedRise := by
  subst h
  have latched : SequencerChange { s with load.qualified := true } { s.latch .stress with load.qualified := true } :=
    (SequencerChange.refl _).rearranged
  unfold State.qualifiedRise
  dsimp only
  split
  · exact latched.trans (State.startShedding_change _)
  · refine .trans ?_ (State.startShedding_change _)
    exact latched.rearranged
  · exact (latched.trans (State.recall_change _)).trans (State.startShedding_change _)
  · exact latched

theorem State.qualifiedFall_change {t : State} (h : t = { s with load.qualified := false }) :
    SequencerChange t s.qualifiedFall := by
  subst h
  rw [State.qualifiedFall_eq]
  exact .ite (fun _ => (SequencerChange.refl _).rearranged) (fun _ => .refl _)

theorem State.restoreStep_change : SequencerChange s s.restoreStep := by
  unfold State.restoreStep
  split
  · exact .refl s
  · refine .trans ?_ (.offer _ (branchOffer_lawful (by decide) _ _))
    refine .trans ?_ (.joinQueue _ _)
    exact (SequencerChange.refl s).rearranged

theorem State.restoreOrCalm_change : SequencerChange s s.restoreOrCalm := by
  refine .ite (fun _ => (SequencerChange.refl s).rearranged) fun _ => .trans ?_ (State.restoreStep_change _)
  exact (SequencerChange.refl s).rearranged

theorem State.takeAllOff_change {cause : RecordCause} (hc : cause = .pin ∨ cause = .command) :
    SequencerChange s (s.takeAllOff cause) := by
  have off : SequencerChange s (s.mapBr fun r => if r.state.active then r.toOff else r) :=
    .mapBr s fun r => by split <;> simp
  have lawful : ∀ n,
      Offer.lawful { kind := .allOff, branch := none, cause := some cause, detail := n, phase := none } := by
    unfold Offer.lawful LogRecord.lawful Offer.stored
    rcases hc with rfl | rfl <;> simp
  refine .trans ?_ (.offer _ (lawful _))
  exact off.rearranged

theorem State.foldl_joinQueue_change (l : List Branch) : SequencerChange s (l.foldl State.joinQueue s) := by
  induction l generalizing s with
  | nil => exact .refl s
  | cons c l ih => exact (SequencerChange.joinQueue s c).trans (ih _)

end SequencerOperations

/-! ### What a command can do outside sequencing, edit by edit

With RESET# released every command but the two RESET# events is a chain of the edits below, each with what the command
has checked by then. The laws about settings, time, levels, stress, log, digest and signature follow edit by edit. -/

/-- One edit of a command c. -/
inductive Edit (c : Instr) (s : State) : State → Prop
  | sequence {t : State} : SequencerChange s t → Edit c s t
  | read (v : Byte) : c = .msloRead ∨ c = .logdataRead → Edit c s { s with window.dataOut := v }
  | hold (v : Byte) : Edit c s { s with time.mshi := v }
  | boundary : Edit c s s.takeMsBoundary
  | prescale {v : Byte} : prescaleInRange v = true → Edit c s { s with time.prescale := v }
  | profile {f : ProfileField} {v : Byte} (b : Branch) :
      fieldInRange f v = true → Edit c s (s.updBr b fun r => { r with profile := r.profile.store f v })
  | slots {v : Byte} : slotsInRange v = true → Edit c s { s with arbiter.slots := v }
  | stagger (v : Byte) : Edit c s { s with arbiter.stagger := v }
  | pgqual {v : Byte} : nonzeroInRange v = true → Edit c s { s with pgqual := v }
  | stressqual (v : Byte) : Edit c s { s with load.stressqual := v }
  | shedivl {v : Byte} : nonzeroInRange v = true → Edit c s { s with load.shedivl := v }
  | holdTime {v : Byte} : nonzeroInRange v = true → Edit c s { s with load.holdTime := v }
  | rspace {v : Byte} : nonzeroInRange v = true → Edit c s { s with load.rspace := v }
  | logthr {v : Byte} : logthrInRange v = true → Edit c s { s with log.thr := v }
  | logidx (i : Fin 9) : Edit c s { s with log.idx := i }
  | logHead {head : LogRecord} {rest : List LogRecord} :
      s.log.records = head :: rest → Edit c s { s with log.records := rest, log.idx := 0 }
  | logClear : Edit c s { s with log.records := [], log.lost := 0, log.idx := 0 }
  | digestClear : Edit c s { s with digest := Digest.default }
  | sign {first last : Branch} (crc : Half) (n : Nat) : first ≤ last →
      Edit c s { s with sig := { state := .running, first := first, last := last, progress := some first, crc := crc,
                                 timer := some n } }
  | signAdvance {b next : Branch} (crc : Half) (n : Nat) :
      s.sig.state = .running → s.sig.progress = some b → b ≤ next → next ≤ s.sig.last →
      Edit c s { s with sig := { s.sig with crc := crc, progress := some next, timer := some n } }
  | signEnd {st : SignState} (crc : Half) : st ≠ .running →
      Edit c s { s with sig := { s.sig with state := st, progress := none, crc := crc, timer := none } }
  | signStop : ¬(s.sig.state = .running ∧ s.sig.progress.isSome = true) → Edit c s { s with sig.timer := none }
  | sc (n : Branch) (level : Bool) :
      Edit c s (State.recordSc { s with pins.sc := s.pins.sc.set n level } n level)
  | oc (n : Branch) (level : Bool) :
      Edit c s (State.recordOc { s with pins.oc := s.pins.oc.set n level } n level)
  | pg (n : Branch) (level : Bool) :
      Edit c s (State.recordPg { s with pins.pg := s.pins.pg.set n level } n level)
  | estop : c = .estopAssertion → Edit c s { s with pins.estop := true, estop := true }
  | estopRelease : Edit c s { s with pins.estop := false, estop := false }
  | stressLevel {i : StressInput} (level : Bool) : s.load.otherLevel i = true →
      Edit c s { s with pins := s.pins.setStressPin i level, load := s.load.setLevel i level }
  | stressStart {i : StressInput} (n : Nat) : s.pins.stressPin i = false → s.load.otherLevel i = false →
      Edit c s { s with pins := s.pins.setStressPin i true,
                        load := { s.load.setLevel i true with qualifyTimer := some n } }
  | stressRise {i : StressInput} : s.pins.stressPin i = false → s.load.otherLevel i = false →
      Edit c s { s with pins := s.pins.setStressPin i true, load := { s.load.setLevel i true with qualified := true } }
  | stressEnd {i : StressInput} : s.load.otherLevel i = false →
      Edit c s { s with pins := s.pins.setStressPin i false,
                        load := { s.load.setLevel i false with qualifyTimer := none, qualified := false } }
  | stressQualified : s.load.qualifyTimer.isSome = true →
      Edit c s { s with load.qualifyTimer := none, load.qualified := true }

/-- A chain of edits. -/
abbrev Edits (c : Instr) : State → State → Prop := Relation.ReflTransGen (Edit c)

theorem Edit.edits {c : Instr} {s t : State} (h : Edit c s t) : Edits c s t := .single h

section EditsOfCommands

variable {c : Instr} (s : State) (b : Branch)

/-- Sequencing, as a chain of edits. -/
theorem SequencerChange.edits {s t : State} (h : SequencerChange s t) : Edits c s t := .single (.sequence h)

theorem Edits.of_frame {s t : State} (h : t.frame = s.frame) (hl : t.log = s.log) (hd : t.digest = s.digest) :
    Edits c s t := (SequencerChange.of_frame h hl hd).edits

/-- An edit that is followed by sequencing. -/
theorem Edit.andThen {s t u : State} (h : Edit c s t) (h' : SequencerChange t u) : Edits c s u :=
  .tail h.edits (.sequence h')

/-! #### Branch commands, all-off, restart -/

theorem State.closeCommand_change : SequencerChange s s.closeCommand := by
  unfold State.closeCommand
  cases branchArgument s.window.arg0 with
  | none => exact .withResult s _
  | some b =>
    exact .ite (fun _ => .withResult s _) fun _ =>
      .ite (fun _ => (SequencerChange.joinQueue s b).trans (.withResult _ _)) (fun _ => .withResult s _)

theorem State.openBranch_change : SequencerChange s (s.openBranch b) := by
  have off : SequencerChange s (s.updBr b (·.toOff)) := .updBr s fun r => r.toOff_inputs
  unfold State.openBranch
  cases (s.br b).state with
  | off | lockout => exact .withResult s _
  | on | dead => exact off.trans (.withResult _ _)
  | inrush => exact ((off.trans (.releaseSlot _)).trans (.endFlightOf _ b)).trans (.withResult _ _)
  | queued =>
    have left : SequencerChange s (s.leaveQueue b) := (SequencerChange.refl s).rearranged
    exact ((left.trans (.updBr _ fun r => r.toOff_inputs)).trans (.endFlightOf _ b)).trans (.withResult _ _)
  | shed =>
    refine .trans ?_ (.withResult _ _)
    exact off.rearranged

theorem State.openCommand_change : SequencerChange s s.openCommand := by
  unfold State.openCommand
  split
  · exact .withResult s _
  · exact s.openBranch_change _

theorem State.rearmCommand_change : SequencerChange s s.rearmCommand := by
  unfold State.rearmCommand
  cases branchArgument s.window.arg0 with
  | none => exact .withResult s _
  | some b =>
    exact .ite (fun _ => (SequencerChange.updBr s fun r => r.toOff_inputs).trans (.withResult _ _))
      (fun _ => .withResult s _)

theorem State.allOffCommand_change : SequencerChange s s.allOffCommand :=
  (s.takeAllOff_change (.inr rfl)).trans (.withResult _ _)

/-- An end of the signature operation, as the profile notice and the restart bring it about (R153, R154). -/
theorem State.endSignature_edits {st : SignState} (h : st ≠ .running) : Edits c s (s.endSignature st) :=
  (Edit.signEnd s.sig.crc h).andThen (.latch _ _)

theorem State.takeRestart_edits : Edits c s s.takeRestart := by
  have off : SequencerChange s (s.mapBr fun r => { r.toOff with lastCause := none }) :=
    .mapBr s fun r => r.toOff_inputs
  have calm : SequencerChange s { s.mapBr (fun r => { r.toOff with lastCause := none }) with
      arbiter := s.arbiter.emptied, load := s.load.calmed } := off.rearranged
  have cleared : Edits c s { s.mapBr (fun r => { r.toOff with lastCause := none }) with
      arbiter := s.arbiter.emptied, load := s.load.calmed, digest := Digest.default } :=
    .tail calm.edits .digestClear
  unfold State.takeRestart
  dsimp only
  refine .tail ?_ (.sequence (State.foldl_joinQueue_change _ _))
  refine .tail ?_ (.sequence (.offer _ (partOffer_lawful (by decide) _)))
  split
  · exact cleared.trans (State.endSignature_edits _ (by decide))
  · exact cleared

theorem State.restartCommand_edits : Edits c s s.restartCommand := by
  unfold State.restartCommand
  split
  · exact (SequencerChange.withResult s _).edits
  · exact .tail s.takeRestart_edits (.sequence (.withResult _ _))

/-! #### Signature engine and log -/

theorem State.signCommand_edits : Edits c s s.signCommand := by
  unfold State.signCommand
  split
  · split
    · exact (SequencerChange.withResult s _).edits
    · refine (Edit.sign _ _ ?_).andThen (.withResult _ _)
      rw [Fin.le_def, Nat.le_min]
      omega
  · exact (SequencerChange.withResult s _).edits

theorem State.logAdvCommand_edits : Edits c s s.logAdvCommand := by
  unfold State.logAdvCommand
  split
  · exact (SequencerChange.withResult s _).edits
  next hl => exact (Edit.logHead hl).andThen (.withResult _ _)

theorem State.writeCmd_edits (code : Byte) : Edits c s (s.writeCmd code) := by
  unfold State.writeCmd
  split
  · exact s.closeCommand_change.edits
  · exact s.openCommand_change.edits
  · exact s.rearmCommand_change.edits
  · exact s.allOffCommand_change.edits
  · exact s.restartCommand_edits
  · exact s.signCommand_edits
  · exact Edit.digestClear.andThen (.withResult _ _)
  · exact s.logAdvCommand_edits
  · exact Edit.logClear.andThen (.withResult _ _)
  · exact (SequencerChange.withResult s _).edits

theorem State.expireSignature_edits : Edits c s s.expireSignature := by
  unfold State.expireSignature
  split
  · exact .refl
  · split
    next b hrun hb =>
      dsimp only
      split
      next hlast => exact (Edit.signAdvance _ _ hrun hb (Fin.le_def.mpr (Nat.le_succ _)) hlast).edits
      next => exact (Edit.signEnd _ (by decide)).andThen (.latch _ _)
    next hno => exact (Edit.signStop fun ⟨hrun, hb⟩ => hno _ hrun (Option.some_get hb).symm).edits

/-! #### Writes of settings -/

/-- A setting stored with OK, or the write refused. -/
theorem Edits.setting {p : Prop} [Decidable p] {t u : State} (h : p → Edit c s t) (h' : SequencerChange s u) :
    Edits c s (if p then t.withWstat .ok else u) := by
  split
  next hp => exact (h hp).andThen (.withWstat _ _)
  next => exact h'.edits

theorem State.writeProfile_edits (f : ProfileField) (v : Byte) : Edits c s (s.writeProfile f v) := by
  unfold State.writeProfile
  dsimp only
  split
  · exact (SequencerChange.withWstat s _).edits
  · split
    next hv =>
      refine .tail (.trans (Edit.profile s.window.bptr hv).edits ?_) (.sequence (.withWstat _ _))
      unfold State.profileNotice
      split
      · exact State.endSignature_edits _ (by decide)
      · exact .refl
    next => exact (SequencerChange.withWstat s _).edits

/-- PRESCALE and SLOTS: RANGE, then ACTIVE, then the setting. -/
theorem Edits.idleSetting {inRange active : Bool} {t : State} (h : inRange = true → Edit c s t) :
    Edits c s (if !inRange then s.withWstat .range else if active then s.withWstat .active else t.withWstat .ok) := by
  cases inRange with
  | false => exact (SequencerChange.withWstat s _).edits
  | true =>
    cases active with
    | true => exact (SequencerChange.withWstat s _).edits
    | false => exact (h rfl).andThen (.withWstat _ _)

theorem State.writePrescale_edits (v : Byte) : Edits c s (s.writePrescale v) := Edits.idleSetting s .prescale

theorem State.writeSlots_edits (v : Byte) : Edits c s (s.writeSlots v) := Edits.idleSetting s .slots

theorem State.writeLogthr_edits (v : Byte) : Edits c s (s.writeLogthr v) := .setting s .logthr (.withWstat s _)

theorem State.acknowledge_change (v : Byte) : SequencerChange s (s.acknowledge v) :=
  .ite (fun _ => (SequencerChange.irq s _).trans (.withWstat _ _)) (fun _ => .withWstat s _)

theorem State.writeIrqen_change (v : Byte) : SequencerChange s (s.writeIrqen v) :=
  .ite (fun _ => (SequencerChange.irq s _).trans (.withWstat _ _)) (fun _ => .withWstat s _)

theorem State.writeOther_edits (loc : Loc) (v : Byte) : Edits c s (s.writeOther loc v) := by
  unfold State.writeOther
  split
  · exact .of_frame rfl rfl rfl
  · exact .of_frame rfl rfl rfl
  · split <;> exact .of_frame rfl rfl rfl
  · exact (Edit.stagger v).andThen (.withWstat _ _)
  · exact .setting s .pgqual (.withWstat s _)
  · exact (Edit.stressqual v).andThen (.withWstat _ _)
  · exact .setting s .shedivl (.withWstat s _)
  · exact .setting s .holdTime (.withWstat s _)
  · exact .setting s .rspace (.withWstat s _)
  · split <;> exact .of_frame rfl rfl rfl
  · split
    · exact (Edit.logidx _).andThen (.withWstat _ _)
    · exact (SequencerChange.withWstat s _).edits
  · exact (SequencerChange.withWstat s _).edits

theorem State.writeLocation_edits (loc : Loc) (v : Byte) : Edits c s (s.writeLocation loc v) := by
  unfold State.writeLocation
  cases profileFieldAt loc with
  | some f => exact s.writeProfile_edits f v
  | none =>
    dsimp only
    split
    · exact s.writeCmd_edits v
    · exact s.writePrescale_edits v
    · exact s.writeSlots_edits v
    · exact s.writeLogthr_edits v
    · exact (s.acknowledge_change v).edits
    · exact (s.writeIrqen_change v).edits
    · exact s.writeOther_edits loc v

/-! #### Events of the pins: the pin, its level record, and then sequencing -/

theorem State.takeScAssertion_edits (n : Branch) :
    Edits c s (State.takeScAssertion { s with pins := s.pins.afterEvent (.scAssertion n) } n) := by
  refine (Edit.sc n true).andThen ?_
  unfold State.takeScAssertion
  dsimp only
  split
  · exact State.takeTrip_change _ n _ _
  · exact State.takeTrip_change _ n _ _
  all_goals exact .refl _

theorem State.takeOcAssertion_edits (n : Branch) :
    Edits c s (State.takeOcAssertion { s with pins := s.pins.afterEvent (.ocAssertion n) } n) := by
  rw [State.takeOcAssertion_eq]
  exact (Edit.oc n true).andThen (.ite (fun _ => State.overcurrent_change _ n) (fun _ => .refl _))

theorem State.takeOcRelease_edits (n : Branch) :
    Edits c s (State.takeOcRelease { s with pins := s.pins.afterEvent (.ocRelease n) } n) := by
  have split : State.takeOcRelease { s with pins := s.pins.afterEvent (.ocRelease n) } n =
      (State.recordOc { s with pins.oc := s.pins.oc.set n false } n false).updBr n
        fun r => { r with ocQualify := none } := by
    rw [State.recordOc, State.updBr_updBr]
    rfl
  rw [split]
  exact (Edit.oc n false).andThen (.updBr _ fun _ => rfl)

theorem State.takePgAssertion_edits (n : Branch) :
    Edits c s (State.takePgAssertion { s with pins := s.pins.afterEvent (.pgAssertion n) } n) := by
  refine (Edit.pg n true).andThen ?_
  exact .ite (fun _ => State.complete_change _ n) fun _ => .ite (fun _ => .updBr _ fun _ => rfl) (fun _ => .refl _)

theorem State.takePgRelease_edits (n : Branch) :
    Edits c s (State.takePgRelease { s with pins := s.pins.afterEvent (.pgRelease n) } n) := by
  refine (Edit.pg n false).andThen ?_
  exact .ite (fun _ => .updBr _ fun _ => rfl) (fun _ => .refl _)

@[simp] theorem LoadManager.otherLevel_setLevel (l : LoadManager) (i : StressInput) (level : Bool) :
    (l.setLevel i level).otherLevel i = l.otherLevel i := by
  cases i <;> rfl

@[simp] theorem LoadManager.setLevel_qualified (l : LoadManager) (i : StressInput) (level : Bool) :
    (l.setLevel i level).qualified = l.qualified := by
  cases i <;> rfl

theorem State.takeStressAssertion_edits {i : StressInput} (hp : s.pins.stressPin i = false) :
    Edits c s (State.takeStressAssertion { s with pins := s.pins.setStressPin i true } i) := by
  unfold State.takeStressAssertion
  dsimp only
  rw [LoadManager.otherLevel_setLevel]
  split
  next ho => exact (Edit.stressLevel true ho).edits
  next ho =>
    have ho := eq_false_of_ne_true ho
    unfold State.rawRise
    split
    · exact (Edit.stressRise hp ho).andThen (State.qualifiedRise_change _ rfl)
    · exact (Edit.stressStart _ hp ho).edits

theorem State.takeStressRelease_edits (i : StressInput) :
    Edits c s (State.takeStressRelease { s with pins := s.pins.setStressPin i false } i) := by
  unfold State.takeStressRelease
  dsimp only
  rw [LoadManager.otherLevel_setLevel]
  split
  next ho => exact (Edit.stressLevel false ho).edits
  next ho =>
    have ended := Edit.stressEnd (c := c) (eq_false_of_ne_true ho)
    unfold State.rawFall
    dsimp only
    split
    next => exact ended.andThen (State.qualifiedFall_change _ rfl)
    next hq =>
      rw [LoadManager.setLevel_qualified] at hq
      convert ended.edits using 3
      rw [← eq_false_of_ne_true hq]
      cases i <;> rfl

/-! #### Expiries -/

/-- A timer of a branch stops, and a trip, a completion or nothing follows. -/
theorem SequencerChange.expiry {s u : State} {b : Branch} {stop : BranchRec → BranchRec} {p q : Prop} [Decidable p]
    [Decidable q] (hstop : ∀ r, (stop r).inputs = r.inputs) (h : SequencerChange (s.updBr b stop) u) :
    SequencerChange s (if p then s else if q then u else s.updBr b stop) :=
  .ite (fun _ => .refl s) fun _ => .ite (fun _ => (SequencerChange.updBr s hstop).trans h) (fun _ => .updBr s hstop)

theorem State.expireOcQualify_change : SequencerChange s (s.expireOcQualify b) :=
  .expiry (fun _ => rfl) (State.takeTrip_change _ b _ _)

theorem State.expirePgLoss_change : SequencerChange s (s.expirePgLoss b) :=
  .expiry (fun _ => rfl) (State.takeTrip_change _ b _ _)

theorem State.expireBlanking_change : SequencerChange s (s.expireBlanking b) :=
  .expiry (fun _ => rfl) (State.complete_change _ b)

theorem State.expireRise_change : SequencerChange s (s.expireRise b) :=
  .expiry (fun _ => rfl) (State.takeTrip_change _ b _ _)

theorem State.expireDead_change : SequencerChange s (s.expireDead b) :=
  .expiry (fun _ => rfl) (.joinQueue _ b)

theorem State.expireSettle_change : SequencerChange s (s.expireSettle b) :=
  .expiry (fun _ => rfl) (.updBr _ fun _ => rfl)

theorem State.expireStagger_change : SequencerChange s s.expireStagger := (SequencerChange.refl s).rearranged

theorem State.expireShedInterval_change : SequencerChange s s.expireShedInterval := by
  have stopped : SequencerChange s { s with load.shedTimer := none } := (SequencerChange.refl s).rearranged
  refine .ite (fun _ => .refl s) fun _ => .ite (fun _ => ?_) (fun _ => stopped)
  have stepped := stopped.trans (State.shedStep_change _)
  exact stepped.rearranged

theorem State.expireHold_change : SequencerChange s s.expireHold := by
  have stopped : SequencerChange s { s with load.holdTimer := none } := (SequencerChange.refl s).rearranged
  exact .ite (fun _ => .refl s) fun _ => .ite (fun _ => stopped.trans (State.restoreOrCalm_change _)) (fun _ => stopped)

theorem State.expireSpacing_change : SequencerChange s s.expireSpacing := by
  have stopped : SequencerChange s { s with load.spacingTimer := none } := (SequencerChange.refl s).rearranged
  exact .ite (fun _ => .refl s) fun _ => .ite (fun _ => stopped.trans (State.restoreOrCalm_change _)) (fun _ => stopped)

theorem State.expireStressQualify_edits : Edits c s s.expireStressQualify := by
  unfold State.expireStressQualify
  split
  · exact .refl
  next h =>
    exact (Edit.stressQualified (by simpa [Option.isSome_iff_ne_none] using h)).andThen
      (State.qualifiedRise_change _ rfl)

/-- What waits for CLKIN is a chain of edits if it is one when taken. -/
theorem State.whenTicking_edits {s : State} {f : State → State} (h : Edits c s (f s)) :
    Edits c s (s.whenTicking f) := by
  unfold State.whenTicking
  split
  · exact h
  · exact .refl

/-- A pin event is a chain of edits if it is one when taken. -/
theorem Edits.pinEvent {s t : State} {p : Prop} [Decidable p] (h : ¬p → Edits c s t) :
    Edits c s (if p then s else t) := by
  split
  · exact .refl
  next hp => exact h hp

end EditsOfCommands

/-- Everything a command can do with RESET# released, but for the two RESET# events. -/
theorem State.taken_edits (s : State) {c : Instr} (ha : c ≠ .resetAssertion) (hr : c ≠ .hardwareReset) :
    Edits c s (s.taken c) := by
  cases c with
  | resetAssertion => exact absurd rfl ha
  | hardwareReset => exact absurd rfl hr
  | close => exact s.closeCommand_change.edits
  | openBranch => exact s.openCommand_change.edits
  | rearm => exact s.rearmCommand_change.edits
  | allOff => exact s.allOffCommand_change.edits
  | restart => exact s.restartCommand_edits
  | sign => exact s.signCommand_edits
  | digestClr => exact Edit.digestClear.andThen (.withResult _ _)
  | logAdv => exact s.logAdvCommand_edits
  | logClr => exact Edit.logClear.andThen (.withResult _ _)
  | unknownCommand code => exact s.writeCmd_edits code
  | msloRead => exact .tail (Edit.read (s.time.ms.setWidth 8) (.inl rfl)).edits (.hold ((s.time.ms >>> 8).setWidth 8))
  | logdataRead => exact .tail (Edit.read s.log.headByte (.inr rfl)).edits (.logidx (s.log.idx + 1))
  | profileWrite f v => exact s.writeProfile_edits f v
  | prescaleWrite v => exact s.writePrescale_edits v
  | slotsWrite v => exact s.writeSlots_edits v
  | irqpendAcknowledge v => exact (s.acknowledge_change v).edits
  | irqenWrite v => exact (s.writeIrqen_change v).edits
  | logthrWrite v => exact s.writeLogthr_edits v
  | registerWrite loc v => exact s.writeLocation_edits loc v
  | scAssertion n => exact .pinEvent fun _ => s.takeScAssertion_edits n
  | scRelease n => exact .pinEvent fun _ => (Edit.sc n false).edits
  | ocAssertion n => exact .pinEvent fun _ => s.takeOcAssertion_edits n
  | ocRelease n => exact .pinEvent fun _ => s.takeOcRelease_edits n
  | pgAssertion n => exact .pinEvent fun _ => s.takePgAssertion_edits n
  | pgRelease n => exact .pinEvent fun _ => s.takePgRelease_edits n
  | stressInputAssertion i => exact .pinEvent fun hp => s.takeStressAssertion_edits (eq_false_of_ne_true hp)
  | stressInputRelease i => exact .pinEvent fun _ => s.takeStressRelease_edits i
  | estopAssertion => exact .pinEvent fun _ => (Edit.estop rfl).andThen (State.takeAllOff_change _ (.inl rfl))
  | estopRelease => exact .pinEvent fun _ => Edit.estopRelease.edits
  | millisecondBoundary => exact State.whenTicking_edits Edit.boundary.edits
  | ocQualifyExpiry n => exact State.whenTicking_edits (f := (·.expireOcQualify n)) (s.expireOcQualify_change n).edits
  | pgLossExpiry n => exact State.whenTicking_edits (f := (·.expirePgLoss n)) (s.expirePgLoss_change n).edits
  | blankingExpiry n => exact State.whenTicking_edits (f := (·.expireBlanking n)) (s.expireBlanking_change n).edits
  | riseExpiry n => exact State.whenTicking_edits (f := (·.expireRise n)) (s.expireRise_change n).edits
  | deadExpiry n => exact State.whenTicking_edits (f := (·.expireDead n)) (s.expireDead_change n).edits
  | settleExpiry n => exact State.whenTicking_edits (f := (·.expireSettle n)) (s.expireSettle_change n).edits
  | staggerExpiry => exact State.whenTicking_edits s.expireStagger_change.edits
  | stressQualifyExpiry => exact State.whenTicking_edits s.expireStressQualify_edits
  | shedIntervalExpiry => exact State.whenTicking_edits s.expireShedInterval_change.edits
  | holdExpiry => exact State.whenTicking_edits s.expireHold_change.edits
  | restoreSpacingExpiry => exact State.whenTicking_edits s.expireSpacing_change.edits
  | signatureRecordExpiry => exact State.whenTicking_edits s.expireSignature_edits
  | grant => exact State.whenTicking_edits (SequencerChange.ite (fun _ => s.takeGrant_change) (fun _ => .refl s)).edits

/-! ### What every step can do

A step is a command on the rest of the queue, or the part's own time. A property that each edit, the held and the
released RESET#, and the passing of time keep is kept by every step. -/

/-- A step runs the front command on the rest of the queue, or with no command waiting the part's own time. -/
theorem step_cases {s t : State} (h : step s = .next t) :
    (s.pending = [] ∧ t = s.idle) ∨ ∃ c rest, s.pending = c :: rest ∧ exec c { s with pending := rest } = .next t := by
  unfold step at h
  split at h
  next hp => exact .inl ⟨hp, (Host.Outcome.next.inj h).symm⟩
  next c rest hp => exact .inr ⟨c, rest, hp, h⟩

/-- A command finds RESET# held, is one of the two RESET# events, or is a chain of edits. -/
theorem exec_cases {c : Instr} {s t : State} (h : exec c s = .next t) :
    (c = .hardwareReset ∧ t = s.releaseReset)
    ∨ (s.running ∧ c = .resetAssertion ∧ t = State.holdReset { s with pins.reset := true })
    ∨ (s.running ∧ c ≠ .resetAssertion ∧ c ≠ .hardwareReset ∧ Edits c s t)
    ∨ (s.pins.reset = true ∧ c ≠ .hardwareReset ∧ t =
        { s with
          pins := s.pins.afterEvent c
          window.dataOut := if c = .msloRead ∨ c = .logdataRead then 0 else s.window.dataOut }) := by
  by_cases hrelease : c = .hardwareReset
  · subst hrelease
    exact .inl ⟨rfl, (Host.Outcome.next.inj h).symm⟩
  · cases hr : s.pins.reset with
    | true =>
      rw [exec_held hr hrelease] at h
      exact .inr (.inr (.inr ⟨rfl, hrelease, (Host.Outcome.next.inj h).symm⟩))
    | false =>
      rw [exec_running hr] at h
      obtain rfl := Host.Outcome.next.inj h
      by_cases hassert : c = .resetAssertion
      · subst hassert
        exact .inr (.inl ⟨hr, rfl, rfl⟩)
      · exact .inr (.inr (.inl ⟨hr, hassert, hrelease, s.taken_edits hassert hrelease⟩))

/-- An event leaves RESET# held, but for the release. -/
theorem Pins.afterEvent_reset {p : Pins} (h : p.reset = true) {c : Instr} (hc : c ≠ .hardwareReset) :
    (p.afterEvent c).reset = true := by
  cases c with
  | hardwareReset => exact absurd rfl hc
  | stressInputAssertion i | stressInputRelease i => cases i <;> exact h
  | resetAssertion => rfl
  | _ => exact h

@[simp] theorem Pins.setStressPin_reset (p : Pins) (i : StressInput) (level : Bool) :
    (p.setStressPin i level).reset = p.reset := by
  cases i <;> rfl

@[simp] theorem Pins.setStressPin_bus (p : Pins) (i : StressInput) (level : Bool) :
    (p.setStressPin i level).bus = p.bus := by
  cases i <;> rfl

theorem SequencerChange.pins {s t : State} (h : SequencerChange s t) : t.pins = s.pins :=
  (congrArg State.pins h.frame :)

/-- An edit does not touch the RESET# pin. -/
theorem Edit.running {c : Instr} {s t : State} (h : Edit c s t) (hs : s.running) : t.running := by
  cases h with
  | sequence h => exact (congrArg Pins.reset h.pins).trans hs
  | stressLevel _ _ | stressStart _ _ _ | stressRise _ _ | stressEnd _ => exact (Pins.setStressPin_reset ..).trans hs
  | _ => exact hs

/-- What each edit keeps, a chain of them keeps. -/
theorem Edits.keep {P : State → Prop} {c : Instr} {s t : State}
    (edit : ∀ s t, s.running → Edit c s t → P s → P t) (h : Edits c s t) (hr : s.running) (hs : P s) :
    t.running ∧ P t := by
  induction h with
  | refl => exact ⟨hr, hs⟩
  | tail _ he ih => exact ⟨he.running ih.1, edit _ _ ih.1 he ih.2⟩

/-- What a property needs to be kept by every step. -/
structure KeptByStep (P : State → Prop) : Prop where
  edit : ∀ c s t, s.running → Edit c s t → P s → P t
  assertReset : ∀ s : State, s.running → P s → P (State.holdReset { s with pins.reset := true })
  releaseReset : ∀ s : State, P s → P s.releaseReset
  held : ∀ (s : State) (p : Pins), s.pins.reset = true → p.reset = true → P s → P { s with pins := p }
  read : ∀ (s : State) (v : Byte), P s → P { s with window.dataOut := v }
  own : ∀ (s : State) (f w : Nat) (l : List Instr), w ≤ Config.grantTicks ∨ w = s.grantWait → P s →
    P { s with free := f, grantWait := w, pending := l }
  tick : ∀ s : State, s.running → P s → P s.endTick
  period : ∀ s : State, s.running → s.time.divider + 1 < s.time.tickLength → P s →
    P { s with time.divider := s.time.divider + 1 }

namespace KeptByStep

variable {P : State → Prop} {s t : State}

theorem exec (h : KeptByStep P) {c : Instr} (hs : P s) (he : exec c s = .next t) : P t := by
  rcases exec_cases he with ⟨-, rfl⟩ | ⟨hr, -, rfl⟩ | ⟨hr, -, -, hedits⟩ | ⟨hr, hc, rfl⟩
  · exact h.releaseReset s hs
  · exact h.assertReset s hr hs
  · exact (hedits.keep (h.edit c) hr hs).2
  · exact h.read _ _ (h.held s _ hr (Pins.afterEvent_reset hr hc) hs)

theorem clockPeriod (h : KeptByStep P) (hr : s.running) (hs : P s) : P s.clockPeriod := by
  rw [State.clockPeriod_eq]
  split
  next => exact h.tick s hr hs
  next hlast => exact h.period s hr (Nat.lt_of_not_le hlast) hs

theorem idle (h : KeptByStep P) (hp : s.pending = []) (hs : P s) : P s.idle := by
  rcases State.idle_cases hp with ⟨-, e⟩ | ⟨hc, -, e⟩ | ⟨-, -, e⟩ | ⟨hc, -, hw, e⟩ <;> rw [e]
  · exact hs
  · exact h.clockPeriod hc.1 (h.own s s.free 0 s.pending (.inl (Nat.zero_le _)) hs)
  · exact h.own s _ 0 _ (.inl (Nat.zero_le _)) hs
  · refine h.clockPeriod hc.1 (h.own s _ _ s.pending ?_ hs)
    split
    · exact .inl hw
    · exact .inr rfl

theorem step (h : KeptByStep P) (hs : P s) (hstep : step s = .next t) : P t := by
  rcases step_cases hstep with ⟨hp, rfl⟩ | ⟨c, rest, -, he⟩
  · exact h.idle hp hs
  · exact h.exec (h.own s s.free s.grantWait rest (.inr rfl) hs) he

end KeptByStep

/-! ### Settings and time (R1, R2, R4, R12, R53, R76, R79, R109, R137) -/

section SettingsAndTime

variable {c : Instr} {s t : State}

theorem State.br_frame (s : State) (b : Branch) : s.frame.br b = (s.br b).inputs := by
  simp [State.frame, State.br]

/-- What a branch's inputs are in t, they are in s. -/
theorem SequencerChange.inputs (h : SequencerChange s t) (b : Branch) : (t.br b).inputs = (s.br b).inputs := by
  rw [← State.br_frame, ← State.br_frame, h.frame]

theorem SequencerChange.profile (h : SequencerChange s t) (b : Branch) : (t.br b).profile = (s.br b).profile :=
  (congrArg BranchRec.profile (h.inputs b) :)

theorem SequencerChange.time (h : SequencerChange s t) : t.time = s.time := (congrArg State.time h.frame :)

theorem SequencerChange.grantWait (h : SequencerChange s t) : t.grantWait = s.grantWait :=
  (congrArg State.grantWait h.frame :)

/-- The settings of a profile in their ranges (R12). -/
def Profile.lawful (p : Profile) : Prop :=
  p.priority.toNat ≤ 7 ∧ p.budget.toNat ≤ 7 ∧ 1 ≤ p.deadbase.toNat ∧ 1 ≤ p.blank.toNat ∧ 1 ≤ p.rise.toNat
    ∧ 1 ≤ p.settle.toNat

/-- A store in range keeps a profile in its ranges. -/
theorem Profile.lawful.store {p : Profile} (h : p.lawful) {f : ProfileField} {v : Byte} (hv : fieldInRange f v = true) :
    (p.store f v).lawful := by
  obtain ⟨hprio, hbudget, hdead, hblank, hrise, hsettle⟩ := h
  cases f <;> simp only [fieldInRange, decide_eq_true_eq] at hv <;>
    exact ⟨by assumption, by assumption, by assumption, by assumption, by assumption, by assumption⟩

/-- The settings that stand outside the profiles. -/
def State.globalsLawful (s : State) : Prop :=
  (1 ≤ s.time.prescale.toNat ∧ s.time.prescale.toNat ≤ 32)
    ∧ (1 ≤ s.arbiter.slots.toNat ∧ s.arbiter.slots.toNat ≤ 3)
    ∧ 1 ≤ s.pgqual.toNat ∧ 1 ≤ s.load.shedivl.toNat ∧ 1 ≤ s.load.holdTime.toNat ∧ 1 ≤ s.load.rspace.toNat
    ∧ (1 ≤ s.log.thr.toNat ∧ s.log.thr.toNat ≤ 16)

/-- A change of one record that keeps its profile lawful. -/
theorem State.profiles_updBr {b : Branch} {f : BranchRec → BranchRec} (hs : ∀ b, (s.br b).profile.lawful)
    (hf : (f (s.br b)).profile.lawful) (d : Branch) : ((s.updBr b f).br d).profile.lawful := by
  rw [State.br_updBr]
  split
  · exact hf
  · exact hs d

/-- Outside sequencing the global settings change one at a time, each to a value in range. -/
theorem Edit.globals (h : Edit c s t) (hs : s.globalsLawful) : t.globalsLawful := by
  obtain ⟨hpre, hslots, hpg, hshed, hhold, hspace, hthr⟩ := hs
  cases h with
  | sequence h =>
    have e : ∀ u : State, u.frame.globalsLawful = u.globalsLawful := fun _ => rfl
    rw [← e, h.frame]
    exact ⟨hpre, hslots, hpg, hshed, hhold, hspace, hthr⟩
  | prescale hv => exact ⟨of_decide_eq_true hv, hslots, hpg, hshed, hhold, hspace, hthr⟩
  | slots hv => exact ⟨hpre, of_decide_eq_true hv, hpg, hshed, hhold, hspace, hthr⟩
  | pgqual hv => exact ⟨hpre, hslots, of_decide_eq_true hv, hshed, hhold, hspace, hthr⟩
  | shedivl hv => exact ⟨hpre, hslots, hpg, of_decide_eq_true hv, hhold, hspace, hthr⟩
  | holdTime hv => exact ⟨hpre, hslots, hpg, hshed, of_decide_eq_true hv, hspace, hthr⟩
  | rspace hv => exact ⟨hpre, hslots, hpg, hshed, hhold, of_decide_eq_true hv, hthr⟩
  | logthr hv => exact ⟨hpre, hslots, hpg, hshed, hhold, hspace, of_decide_eq_true hv⟩
  | @stressLevel i _ _ | @stressStart i _ _ _ | @stressRise i _ _ | @stressEnd i _ =>
    cases i <;> exact ⟨hpre, hslots, hpg, hshed, hhold, hspace, hthr⟩
  | _ => exact ⟨hpre, hslots, hpg, hshed, hhold, hspace, hthr⟩

/-- A profile changes by a store in range alone. -/
theorem Edit.profiles (h : Edit c s t) (hs : ∀ b, (s.br b).profile.lawful) : ∀ b, (t.br b).profile.lawful := by
  cases h with
  | sequence h => exact fun b => (h.profile b).symm ▸ hs b
  | profile b hv => exact State.profiles_updBr hs ((hs b).store hv)
  | sc n _ | oc n _ | pg n _ => exact State.profiles_updBr hs (hs n)
  | _ => exact hs

theorem Profile.default_lawful : Profile.default.lawful := by unfold Profile.lawful; decide

theorem State.br_holdReset (s : State) (b : Branch) :
    s.holdReset.br b =
      { BranchRec.default with
        scLevel := (s.br b).scLevel, ocLevel := (s.br b).ocLevel, pgLevel := (s.br b).pgLevel } := by
  simp [State.holdReset, State.br]

theorem State.br_releaseReset (s : State) (b : Branch) : s.releaseReset.br b = BranchRec.released s.pins b := by
  simp [State.releaseReset, State.br]

@[simp] theorem State.br_endTick (s : State) (b : Branch) : s.endTick.br b = (s.br b).countDown :=
  State.br_mapBr s BranchRec.countDown b

theorem LoadManager.released_eq (p : Pins) :
    LoadManager.released p =
      { LoadManager.default with
        supovl := p.supovl, buslo := p.buslo,
        qualifyTimer := if p.supovl = true ∨ p.buslo = true then some 2000 else none } := by
  cases hs : p.supovl <;> cases hb : p.buslo <;> simp [LoadManager.released, hs, hb] <;> rfl

theorem State.reset_globalsLawful : State.reset.globalsLawful := by unfold State.globalsLawful; decide

theorem State.reset_timeLawful : State.reset.timeLawful := by unfold State.timeLawful; decide

theorem keptByStep_settingsLawful : KeptByStep State.settingsLawful where
  edit _ _ _ _ h hs := ⟨h.profiles hs.1, h.globals hs.2⟩
  assertReset s _ hs := by
    obtain ⟨hpre, hslots, hpg, hshed, hhold, hspace, -⟩ := State.reset_globalsLawful
    obtain ⟨-, -, -, -, -, -, -, hthr⟩ := hs
    refine ⟨fun b => ?_, hpre, hslots, hpg, hshed, hhold, hspace, hthr⟩
    rw [State.br_holdReset]
    exact Profile.default_lawful
  releaseReset s _ := by
    obtain ⟨hpre, hslots, hpg, hshed, hhold, hspace, hthr⟩ := State.reset_globalsLawful
    have hl : s.releaseReset.load = _ := LoadManager.released_eq s.pins
    refine ⟨fun b => ?_, hpre, hslots, hpg, ?_⟩
    · rw [State.br_releaseReset]
      exact Profile.default_lawful
    · rw [hl]
      exact ⟨hshed, hhold, hspace, hthr⟩
  held _ _ _ _ hs := hs
  read _ _ hs := hs
  own _ _ _ _ _ hs := hs
  tick s _ hs := ⟨fun b => by rw [State.br_endTick]; exact hs.1 b, hs.2⟩
  period _ _ _ hs := hs

theorem keptByStep_timeLawful : KeptByStep State.timeLawful where
  edit _ s t _ h hs := by
    obtain ⟨hsub, hdiv, hlen, hpre, hwait⟩ := hs
    cases h with
    | sequence h =>
      unfold State.timeLawful
      rw [h.time, h.grantWait]
      exact ⟨hsub, hdiv, hlen, hpre, hwait⟩
    | prescale hv => exact ⟨hsub, hdiv, hlen, of_decide_eq_true hv, hwait⟩
    | boundary => exact ⟨State.reset_timeLawful.1, hdiv, hlen, hpre, hwait⟩
    | _ => exact ⟨hsub, hdiv, hlen, hpre, hwait⟩
  assertReset _ _ hs := by
    obtain ⟨hsub, hdiv, hlen, hpre, -⟩ := State.reset_timeLawful
    obtain ⟨-, -, -, -, hwait⟩ := hs
    exact ⟨hsub, hdiv, hlen, hpre, hwait⟩
  releaseReset _ hs := by
    obtain ⟨hsub, hdiv, hlen, hpre, -⟩ := State.reset_timeLawful
    obtain ⟨-, -, -, -, hwait⟩ := hs
    exact ⟨hsub, hdiv, hlen, hpre, hwait⟩
  held _ _ _ _ hs := hs
  read _ _ hs := hs
  own s _ w _ hw hs := by
    obtain ⟨hsub, hdiv, hlen, hpre, hwait⟩ := hs
    refine ⟨hsub, hdiv, hlen, hpre, ?_⟩
    rcases hw with hw | rfl
    · exact hw
    · exact hwait
  tick s _ hs := by
    obtain ⟨hsub, -, -, hpre, hwait⟩ := hs
    refine ⟨?_, hpre.1, hpre.2, hpre, hwait⟩
    simp only [State.endTick]
    split
    · exact hsub
    next hb => simpa using hb
  period s _ hlast hs := by
    obtain ⟨hsub, -, hlen, hpre, hwait⟩ := hs
    exact ⟨hsub, hlast, hlen, hpre, hwait⟩

end SettingsAndTime

/-- Settles O53: settings and time are each kept by every edit, by RESET# and by the passing of time. -/
theorem stepKeepsSettingsAndTimeLawful : Obligations.StepKeepsSettingsAndTimeLawful :=
  fun _ _ hsettings htime hstep =>
    ⟨keptByStep_settingsLawful.step hsettings hstep, keptByStep_timeLawful.step htime hstep⟩

/-! ### Level records and stress (R32, R87, R88, R110, R111, R122) -/

section LevelsAndStress

variable {c : Instr} {s t : State}

/-- The level records of a branch are at its pins. -/
def State.branchLevelsAtPins (s : State) (b : Branch) : Prop :=
  (s.br b).scLevel = s.pins.sc[b] ∧ (s.br b).ocLevel = s.pins.oc[b] ∧ (s.br b).pgLevel = s.pins.pg[b]

/-- The level records of the part's own inputs are at their pins. -/
def State.partLevelsAtPins (s : State) : Prop :=
  s.load.supovl = s.pins.supovl ∧ s.load.buslo = s.pins.buslo ∧ s.estop = s.pins.estop

/-- Qualified stress and the qualify timer under raw stress, never both, and one of them with raw stress. -/
def LoadManager.stressLawful (l : LoadManager) : Prop :=
  (l.qualified = true → l.rawStress = true) ∧ (l.qualifyTimer.isSome = true → l.rawStress = true)
    ∧ ¬(l.qualified = true ∧ l.qualifyTimer.isSome = true)
    ∧ (l.rawStress = true → l.qualified = true ∨ l.qualifyTimer.isSome = true)

/-- Levels and stress with RESET# released. -/
def State.inputsLawful (s : State) : Prop :=
  (∀ b, s.branchLevelsAtPins b) ∧ s.partLevelsAtPins ∧ s.load.stressLawful

theorem State.inputsLawful_iff (hr : s.running) : s.inputsLawful ↔ s.levelsLawful ∧ s.stressLawful := by
  have hr : s.pins.reset = false := hr
  constructor
  · rintro ⟨hb, hp, hq, ht, hn, hraw⟩
    exact ⟨fun _ => ⟨hb, hp⟩, hq, ht, hn, fun _ => hraw⟩
  · rintro ⟨hlevels, hq, ht, hn, hraw⟩
    obtain ⟨hb, hp⟩ := hlevels hr
    exact ⟨hb, hp, hq, ht, hn, hraw hr⟩

theorem SequencerChange.load (h : SequencerChange s t) : t.load.calmed = s.load.calmed :=
  (congrArg State.load h.frame :)

theorem LoadManager.stressLawful_calmed (l : LoadManager) : l.calmed.stressLawful ↔ l.stressLawful := Iff.rfl

/-- One pin of eight at a new level. -/
theorem getElem_set_self (v : Vector Bool 8) (n : Branch) (level : Bool) : (v.set n level)[n] = level := by
  simp

theorem getElem_set_other (v : Vector Bool 8) {n b : Branch} (h : b ≠ n) (level : Bool) :
    (v.set n level)[b] = v[b] := by
  have hv : n.val ≠ b.val := fun e => h (Fin.ext e.symm)
  simp [hv]

/-- One branch record and its pins changed, the levels recorded still at their pins. -/
theorem State.branchLevels_set {n : Branch} {r : BranchRec} (hs : ∀ b, s.branchLevelsAtPins b)
    (ht : t.branches = s.branches.set n r)
    (hn : r.scLevel = t.pins.sc[n] ∧ r.ocLevel = t.pins.oc[n] ∧ r.pgLevel = t.pins.pg[n])
    (hpins : ∀ b : Branch, b ≠ n →
      t.pins.sc[b] = s.pins.sc[b] ∧ t.pins.oc[b] = s.pins.oc[b] ∧ t.pins.pg[b] = s.pins.pg[b])
    (b : Branch) : t.branchLevelsAtPins b := by
  unfold State.branchLevelsAtPins
  rw [State.br_set s n r t ht b]
  split
  next hb => exact hb ▸ hn
  next hb =>
    obtain ⟨hsc, hoc, hpg⟩ := hpins b hb
    rw [hsc, hoc, hpg]
    exact hs b

theorem LoadManager.rawStress_eq (l : LoadManager) (i : StressInput) : l.rawStress = (l.level i || l.otherLevel i) := by
  cases i
  · rfl
  · exact Bool.or_comm _ _

@[simp] theorem LoadManager.rawStress_setLevel (l : LoadManager) (i : StressInput) (level : Bool) :
    (l.setLevel i level).rawStress = (level || l.otherLevel i) := by
  cases i
  · rfl
  · exact Bool.or_comm _ _

@[simp] theorem LoadManager.setLevel_qualifyTimer (l : LoadManager) (i : StressInput) (level : Bool) :
    (l.setLevel i level).qualifyTimer = l.qualifyTimer := by
  cases i <;> rfl

/-- With raw stress absent no stress is qualified or being qualified. -/
theorem LoadManager.stressLawful.quiet {l : LoadManager} (h : l.stressLawful) (hraw : l.rawStress = false) :
    l.qualified = false ∧ l.qualifyTimer = none := by
  obtain ⟨hq, ht, -, -⟩ := h
  simpa [hraw] using And.intro hq ht

/-- The level of a stress input recorded with its pin. -/
theorem State.partLevels_set (hs : s.partLevelsAtPins) {i : StressInput} {level : Bool} {l : LoadManager}
    (hl : l.supovl = (s.load.setLevel i level).supovl ∧ l.buslo = (s.load.setLevel i level).buslo) :
    State.partLevelsAtPins { s with pins := s.pins.setStressPin i level, load := l } := by
  obtain ⟨hsup, hbus, hestop⟩ := hs
  obtain ⟨hlsup, hlbus⟩ := hl
  cases i
  · exact ⟨hlsup, hlbus.trans hbus, hestop⟩
  · exact ⟨hlsup.trans hsup, hlbus, hestop⟩

/-- An edit of an input changes its level record and its pin alike, and stress with them. -/
theorem Edit.inputs (h : Edit c s t) (hs : s.inputsLawful) : t.inputsLawful := by
  obtain ⟨hb, hpart, hstress⟩ := hs
  have same : ∀ (i : StressInput) (level : Bool) (l : LoadManager) (b : Branch),
      State.branchLevelsAtPins { s with pins := s.pins.setStressPin i level, load := l } b := fun i level l b => by
    cases i <;> exact hb b
  have quiet : ∀ i : StressInput, s.pins.stressPin i = false → s.load.otherLevel i = false →
      s.load.qualified = false ∧ s.load.qualifyTimer = none := fun i hp ho => by
    obtain ⟨hsup, hbus, -⟩ := hpart
    have hlevel : s.load.level i = false := by
      cases i
      · exact hsup.trans hp
      · exact hbus.trans hp
    exact hstress.quiet (by simp [s.load.rawStress_eq i, hlevel, ho])
  cases h with
  | sequence h =>
    refine ⟨fun b => ?_, ?_, ?_⟩
    · have e : ∀ u : State, u.branchLevelsAtPins b ↔
          (u.br b).inputs.scLevel = u.pins.sc[b] ∧ (u.br b).inputs.ocLevel = u.pins.oc[b]
            ∧ (u.br b).inputs.pgLevel = u.pins.pg[b] := fun _ => Iff.rfl
      rw [e, h.inputs, h.pins]
      exact hb b
    · have e : ∀ u : State, u.frame.partLevelsAtPins = u.partLevelsAtPins := fun _ => rfl
      rw [← e, h.frame]
      exact hpart
    · rw [← LoadManager.stressLawful_calmed, h.load]
      exact hstress
  | profile n _ => exact ⟨State.branchLevels_set hb rfl (hb n) fun _ _ => ⟨rfl, rfl, rfl⟩, hpart, hstress⟩
  | sc n level =>
    obtain ⟨-, hoc, hpg⟩ := hb n
    exact ⟨State.branchLevels_set hb rfl ⟨(getElem_set_self _ n level).symm, hoc, hpg⟩
      fun b hbn => ⟨getElem_set_other _ hbn level, rfl, rfl⟩, hpart, hstress⟩
  | oc n level =>
    obtain ⟨hsc, -, hpg⟩ := hb n
    exact ⟨State.branchLevels_set hb rfl ⟨hsc, (getElem_set_self _ n level).symm, hpg⟩
      fun b hbn => ⟨rfl, getElem_set_other _ hbn level, rfl⟩, hpart, hstress⟩
  | pg n level =>
    obtain ⟨hsc, hoc, -⟩ := hb n
    exact ⟨State.branchLevels_set hb rfl ⟨hsc, hoc, (getElem_set_self _ n level).symm⟩
      fun b hbn => ⟨rfl, rfl, getElem_set_other _ hbn level⟩, hpart, hstress⟩
  | estop _ =>
    obtain ⟨hsup, hbus, -⟩ := hpart
    exact ⟨hb, ⟨hsup, hbus, rfl⟩, hstress⟩
  | estopRelease =>
    obtain ⟨hsup, hbus, -⟩ := hpart
    exact ⟨hb, ⟨hsup, hbus, rfl⟩, hstress⟩
  | @stressLevel i level ho =>
    refine ⟨same i _ _, State.partLevels_set hpart ⟨rfl, rfl⟩, ?_⟩
    have hraw : s.load.rawStress = true := by simp [s.load.rawStress_eq i, ho]
    simpa [LoadManager.stressLawful, hraw, ho] using hstress
  | @stressStart i n hp ho =>
    obtain ⟨hq, -⟩ := quiet i hp ho
    have hraw : (s.load.setLevel i true).rawStress = true := by simp
    refine ⟨same i _ _, State.partLevels_set hpart ⟨rfl, rfl⟩, fun _ => hraw, fun _ => hraw, fun h => ?_,
      fun _ => .inr rfl⟩
    simp [hq] at h
  | @stressRise i hp ho =>
    obtain ⟨-, ht⟩ := quiet i hp ho
    have hraw : (s.load.setLevel i true).rawStress = true := by simp
    refine ⟨same i _ _, State.partLevels_set hpart ⟨rfl, rfl⟩, fun _ => hraw, fun _ => hraw, fun h => ?_,
      fun _ => .inl rfl⟩
    simp [ht] at h
  | @stressEnd i ho =>
    have hraw : (s.load.setLevel i false).rawStress = false := by simp [ho]
    refine ⟨same i _ _, State.partLevels_set hpart ⟨rfl, rfl⟩, fun h => ?_, fun h => ?_, fun h => ?_, fun h => ?_⟩
    · cases h
    · cases h
    · cases h.1
    · exact absurd h (ne_true_of_eq_false hraw)
  | stressQualified ht =>
    obtain ⟨-, hraw, -, -⟩ := hstress
    refine ⟨hb, hpart, fun _ => hraw ht, fun h => ?_, fun h => ?_, fun _ => .inl rfl⟩
    · cases h
    · cases h.2
  | _ => exact ⟨hb, hpart, hstress⟩

theorem keptByStep_levelsAndStress : KeptByStep fun s => s.levelsLawful ∧ s.stressLawful where
  edit _ s t hr h hs := (State.inputsLawful_iff (h.running hr)).mp (h.inputs ((State.inputsLawful_iff hr).mpr hs))
  assertReset _ _ _ := ⟨nofun, nofun, nofun, nofun, nofun⟩
  releaseReset s _ := by
    refine (State.inputsLawful_iff rfl).mp ⟨fun b => ?_, ?_, ?_⟩
    · unfold State.branchLevelsAtPins
      rw [State.br_releaseReset]
      exact ⟨rfl, rfl, rfl⟩
    · have hl : s.releaseReset.load = _ := LoadManager.released_eq s.pins
      unfold State.partLevelsAtPins
      rw [hl]
      exact ⟨rfl, rfl, rfl⟩
    · have hl : s.releaseReset.load = _ := LoadManager.released_eq s.pins
      rw [hl]
      cases hsup : s.pins.supovl <;> cases hbus : s.pins.buslo <;>
        simp [LoadManager.stressLawful, LoadManager.rawStress, LoadManager.default]
  held s p hr hp hs := by
    obtain ⟨-, hq, ht, hn, -⟩ := hs
    refine ⟨fun h => ?_, hq, ht, hn, fun h => ?_⟩
    · exact absurd h (by simp [hp])
    · exact absurd h (by simp [hp])
  read _ _ hs := hs
  own _ _ _ _ _ hs := hs
  tick s hr hs := by
    obtain ⟨hb, hpart, hstress⟩ := (State.inputsLawful_iff hr).mpr hs
    refine (State.inputsLawful_iff (s := s.endTick) hr).mp ⟨fun b => ?_, hpart, ?_⟩
    · unfold State.branchLevelsAtPins
      rw [State.br_endTick]
      exact hb b
    · have ht : s.endTick.load.qualifyTimer.isSome = s.load.qualifyTimer.isSome := by
        simp [State.endTick, State.countDown]
      unfold LoadManager.stressLawful
      rw [ht]
      exact hstress
  period _ _ _ hs := hs

end LevelsAndStress

/-- Settles O56: outside RESET# by the edits of an input with its pin, and across RESET# by what it takes from the
pins. -/
theorem stepKeepsLevelsAndStressLawful : Obligations.StepKeepsLevelsAndStressLawful :=
  fun _ _ hlevels hstress hstep => keptByStep_levelsAndStress.step ⟨hlevels, hstress⟩ hstep

/-! ### Log and digest (R124, R126, R140) -/

/-- Outside sequencing the log loses its head or all its records, or changes in LOGTHR and LOGIDX alone. -/
theorem keptByStep_logLawful : KeptByStep fun s => s.log.lawful where
  edit _ _ _ _ h hs := by
    cases h with
    | sequence h => exact h.log hs
    | logHead hl => exact hs.tail hl 0
    | logClear => exact ⟨Nat.zero_le _, rfl, fun _ hr => absurd hr List.not_mem_nil⟩
    | _ => exact hs
  assertReset _ _ hs := hs
  releaseReset _ _ := ⟨Nat.zero_le _, rfl, fun _ hr => absurd hr List.not_mem_nil⟩
  held _ _ _ _ hs := hs
  read _ _ hs := hs
  own _ _ _ _ _ hs := hs
  tick _ _ hs := hs
  period _ _ _ hs := hs

theorem keptByStep_digestLawful : KeptByStep fun s => s.digest.lawful where
  edit _ _ _ _ h hs := by
    cases h with
    | sequence h => exact h.digest hs
    | digestClear => exact Digest.default_lawful
    | _ => exact hs
  assertReset _ _ hs := hs
  releaseReset _ _ := Digest.default_lawful
  held _ _ _ _ hs := hs
  read _ _ hs := hs
  own _ _ _ _ _ hs := hs
  tick _ _ hs := hs
  period _ _ _ hs := hs

/-- Settles O58: sequencing offers lawful records and gives notices; nothing else adds to the log or the digest. -/
theorem stepKeepsLogAndDigestLawful : Obligations.StepKeepsLogAndDigestLawful :=
  fun _ _ hlog hdigest hstep => ⟨keptByStep_logLawful.step hlog hstep, keptByStep_digestLawful.step hdigest hstep⟩

/-! ### Signature engine (R152 to R156) -/

section SignatureLaw

variable {c : Instr} {s t : State}

theorem SequencerChange.sig (h : SequencerChange s t) : t.sig = s.sig := (congrArg State.sig h.frame :)

/-- The law of the engine with RESET# released. -/
theorem State.signatureLawful_iff (hr : s.running) :
    s.signatureLawful ↔
      (s.sig.progress.isSome = true ↔ s.sig.state = .running)
        ∧ (∀ b, s.sig.progress = some b → s.sig.first ≤ b ∧ b ≤ s.sig.last)
        ∧ (s.sig.timer.isSome = true ↔ s.sig.state = .running) := by
  have hr : s.pins.reset = false := hr
  simp [State.signatureLawful, hr]

theorem keptByStep_signatureLawful : KeptByStep State.signatureLawful where
  edit _ s t hr h hs := by
    have hrt := h.running hr
    rw [State.signatureLawful_iff hr] at hs
    rw [State.signatureLawful_iff hrt]
    obtain ⟨hprog, hrange, htimer⟩ := hs
    cases h with
    | sequence h =>
      rw [h.sig]
      exact ⟨hprog, hrange, htimer⟩
    | sign _ _ hle =>
      refine ⟨by simp, fun b hb => ?_, by simp⟩
      obtain rfl := Option.some.inj hb
      exact ⟨le_rfl, hle⟩
    | signAdvance _ _ hrun hb hle hlast =>
      refine ⟨by simp [hrun], fun d hd => ?_, by simp [hrun]⟩
      obtain rfl := Option.some.inj hd
      exact ⟨(hrange _ hb).1.trans hle, hlast⟩
    | signEnd _ hst => exact ⟨by simp [hst], fun b hb => (nomatch hb), by simp [hst]⟩
    | signStop hno =>
      have hst : s.sig.state ≠ .running := fun h => hno ⟨h, hprog.mpr h⟩
      exact ⟨hprog, hrange, by simp [hst]⟩
    | _ => exact ⟨hprog, hrange, htimer⟩
  assertReset s hr hs := by
    obtain ⟨hprog, hrange, -⟩ := hs
    exact ⟨hprog, hrange, nofun, fun _ => rfl⟩
  releaseReset _ _ := ⟨iff_of_false nofun nofun, nofun, fun _ => iff_of_false nofun nofun, nofun⟩
  held s p hr hp hs := by
    obtain ⟨hprog, hrange, -, htimer⟩ := hs
    exact ⟨hprog, hrange, fun h => absurd h (by simp [hp]), fun _ => htimer hr⟩
  read _ _ hs := hs
  own _ _ _ _ _ hs := hs
  tick s hr hs := by
    have hs := (State.signatureLawful_iff hr).mp hs
    obtain ⟨hprog, hrange, htimer⟩ := hs
    refine (State.signatureLawful_iff (s := s.endTick) hr).mpr ⟨hprog, hrange, ?_⟩
    have ht : s.endTick.sig.timer.isSome = s.sig.timer.isSome := by simp [State.endTick, State.countDown]
    rw [ht]
    exact htimer
  period _ _ _ hs := hs

end SignatureLaw

/-- Settles O59: the engine starts, advances, ends and stops as its edits say. -/
theorem stepKeepsSignatureLawful : Obligations.StepKeepsSignatureLawful :=
  fun _ _ hs hstep => keptByStep_signatureLawful.step hs hstep

/-! ### The held RESET# (R31, R54, R121) -/

/-- With RESET# released the law of the held RESET# asks nothing. -/
theorem State.resetHeldLawful_of_running {s : State} (hr : s.running) : s.resetHeldLawful := fun h =>
  absurd h (ne_true_of_eq_false hr)

theorem keptByStep_resetHeldLawful : KeptByStep State.resetHeldLawful where
  edit _ _ _ hr h _ := State.resetHeldLawful_of_running (h.running hr)
  assertReset s _ _ := by
    refine fun _ => ⟨fun b => ?_, rfl, rfl, rfl, rfl, rfl⟩
    rw [State.br_holdReset]
    exact ⟨rfl, rfl⟩
  releaseReset s _ := State.resetHeldLawful_of_running rfl
  held _ _ hr _ hs := fun _ => hs hr
  read _ _ hs := hs
  own _ _ _ _ _ hs := hs
  tick _ hr _ := State.resetHeldLawful_of_running hr
  period _ hr _ _ := State.resetHeldLawful_of_running hr

/-- Settles O60: the assertion of RESET# brings about what the law asks, and nothing happens while it is held. -/
theorem stepKeepsHeldResetLawful : Obligations.StepKeepsHeldResetLawful :=
  fun _ _ hs hstep => keptByStep_resetHeldLawful.step hs hstep

/-! ### The queue of commands, the counters and the drive of D7-D0 (R157, R159; log 1) -/

section OwnFields

variable {c : Instr} {s t : State}

theorem Edit.own (h : Edit c s t) :
    t.pending = s.pending ∧ t.free = s.free ∧ t.grantWait = s.grantWait := by
  cases h with
  | sequence h => exact ⟨(congrArg State.pending h.frame :), (congrArg State.free h.frame :), h.grantWait⟩
  | _ => exact ⟨rfl, rfl, rfl⟩

theorem Edits.own (h : Edits c s t) : t.pending = s.pending ∧ t.free = s.free ∧ t.grantWait = s.grantWait := by
  induction h with
  | refl => exact ⟨rfl, rfl, rfl⟩
  | tail _ he ih =>
    obtain ⟨hpending, hfree, hwait⟩ := he.own
    exact ⟨hpending.trans ih.1, hfree.trans ih.2.1, hwait.trans ih.2.2⟩

/-- No edit but that of a read touches the value on D7-D0, its drive or the lines of the bus. -/
theorem Edit.drive (h : Edit c s t) (hm : c ≠ .msloRead) (hl : c ≠ .logdataRead) :
    t.window.dataOut = s.window.dataOut ∧ t.window.driving = s.window.driving ∧ t.pins.bus = s.pins.bus := by
  cases h with
  | sequence h =>
    exact ⟨(congrArg (·.window.dataOut) h.frame :), (congrArg (·.window.driving) h.frame :), congrArg Pins.bus h.pins⟩
  | read _ hc => exact absurd hc (not_or.mpr ⟨hm, hl⟩)
  | stressLevel _ _ | stressStart _ _ _ | stressRise _ _ | stressEnd _ => exact ⟨rfl, rfl, Pins.setStressPin_bus ..⟩
  | _ => exact ⟨rfl, rfl, rfl⟩

theorem Edits.drive (h : Edits c s t) (hm : c ≠ .msloRead) (hl : c ≠ .logdataRead) :
    t.window.dataOut = s.window.dataOut ∧ t.window.driving = s.window.driving ∧ t.pins.bus = s.pins.bus := by
  induction h with
  | refl => exact ⟨rfl, rfl, rfl⟩
  | tail _ he ih =>
    obtain ⟨hout, hdrive, hbus⟩ := he.drive hm hl
    exact ⟨hout.trans ih.1, hdrive.trans ih.2.1, hbus.trans ih.2.2⟩

@[simp] theorem Pins.afterEvent_bus (p : Pins) (c : Instr) : (p.afterEvent c).bus = p.bus := by
  cases c with
  | stressInputAssertion i | stressInputRelease i => cases i <;> rfl
  | _ => rfl

/-- No command but a read touches the value on D7-D0, its drive or the lines of the bus. -/
theorem exec_drive (h : exec c s = .next t) (hm : c ≠ .msloRead) (hl : c ≠ .logdataRead) :
    t.window.dataOut = s.window.dataOut ∧ t.window.driving = s.window.driving ∧ t.pins.bus = s.pins.bus := by
  rcases exec_cases h with ⟨-, rfl⟩ | ⟨-, -, rfl⟩ | ⟨-, -, -, hedits⟩ | ⟨-, -, rfl⟩
  · exact ⟨rfl, rfl, rfl⟩
  · exact ⟨rfl, rfl, rfl⟩
  · exact hedits.drive hm hl
  · exact ⟨if_neg (not_or.mpr ⟨hm, hl⟩), rfl, Pins.afterEvent_bus _ c⟩

end OwnFields

/-- Settles O2: every arm of `exec` is a next state, and no edit and no RESET# event touches the three fields. -/
theorem everyCommandCompletesWithItsQueueKept : Obligations.EveryCommandCompletesWithItsQueueKept := by
  intro c s
  obtain ⟨t, h⟩ := exec_next c s
  refine ⟨t, h, ?_⟩
  rcases exec_cases h with ⟨-, rfl⟩ | ⟨-, -, rfl⟩ | ⟨-, -, -, hedits⟩ | ⟨-, -, rfl⟩
  · exact ⟨rfl, rfl, rfl⟩
  · exact ⟨rfl, rfl, rfl⟩
  · exact hedits.own
  · exact ⟨rfl, rfl, rfl⟩

/-- While RESET# is held every location reads 00h (R121). -/
theorem State.readLocation_held {s : State} (h : s.pins.reset = true) (loc : Loc) : s.readLocation loc = 0 := if_pos h

/-- Settles O15. -/
theorem heldResetTakesNoEvent : Obligations.HeldResetTakesNoEvent :=
  fun _ h => ⟨fun loc => State.readLocation_held h loc, fun _ hc => exec_held h hc⟩

/-! ### What each operation does to the record of a branch -/

/-- An overcurrent that ON acts on (R47, R48). -/
def BranchRec.overcurrent (r : BranchRec) : BranchRec :=
  if r.profile.ocqual = 0 then r.tripped .oc else { r with ocQualify := some (ocQualifyTicks r.profile) }

/-- The inputs examined at the entry to ON (R37, R47). -/
def BranchRec.examined (r : BranchRec) : BranchRec :=
  if r.scLevel then r.tripped .sc else if r.ocLevel then r.overcurrent else r

/-- The completion (R45). -/
def BranchRec.completed (r : BranchRec) : BranchRec := ((r.moveTo .on).startSettle).examined

/-- The entry to INRUSH (R36, R40). -/
def BranchRec.enteredInrush (r : BranchRec) : BranchRec :=
  if r.scLevel then (r.moveTo .inrush).tripped .sc
  else { r.moveTo .inrush with blanking := some (blankingTicks r.profile), rise := some (riseTicks r.profile) }

section Records

variable (s : State) (b c : Branch)

@[simp] theorem BranchRec.moveTo_profile (r : BranchRec) (st : BranchState) : (r.moveTo st).profile = r.profile :=
  (congrArg BranchRec.profile (r.moveTo_inputs st) :)

@[simp] theorem BranchRec.moveTo_scLevel (r : BranchRec) (st : BranchState) : (r.moveTo st).scLevel = r.scLevel :=
  (congrArg BranchRec.scLevel (r.moveTo_inputs st) :)

@[simp] theorem State.endFlightOf_branches : (s.endFlightOf b).branches = s.branches := by
  rw [State.endFlightOf_eq]

@[simp] theorem State.takeTrip_branches (cause : TripCause) (ph : Phase) :
    (s.takeTrip b cause ph).branches = s.branches.set b ((s.br b).tripped cause) := by
  simp [State.takeTrip, apply_ite State.branches]

@[simp] theorem State.br_takeTrip (cause : TripCause) (ph : Phase) :
    (s.takeTrip b cause ph).br c = if c = b then (s.br b).tripped cause else s.br c :=
  State.br_set s b _ _ (s.takeTrip_branches b cause ph) c

@[simp] theorem State.enterInrush_branches :
    (s.enterInrush b).branches = s.branches.set b (s.br b).enteredInrush := by
  unfold State.enterInrush BranchRec.enteredInrush
  simp only [BranchRec.moveTo_scLevel, BranchRec.moveTo_profile]
  split <;> simp

@[simp] theorem State.overcurrent_branches :
    (s.overcurrent b).branches = s.branches.set b (s.br b).overcurrent := by
  unfold State.overcurrent BranchRec.overcurrent
  split <;> simp

@[simp] theorem State.br_examineAtOn :
    (s.examineAtOn b).br c = if c = b then (s.br b).examined else s.br c := by
  unfold State.examineAtOn BranchRec.examined
  split
  · exact State.br_takeTrip ..
  · split
    · exact State.br_set s b _ _ (s.overcurrent_branches b) c
    · split
      next hc => rw [hc]
      next => rfl

@[simp] theorem State.br_complete : (s.complete b).br c = if c = b then (s.br b).completed else s.br c := by
  simp only [State.complete, State.br_examineAtOn, State.br_endFlightOf, State.br_releaseSlot, State.br_updBr, if_true]
  split <;> rfl

theorem State.br_takeGrant {rest : List Branch} (h : s.arbiter.queue = b :: rest) :
    s.takeGrant.br c = if c = b then (s.br b).enteredInrush else s.br c := by
  refine State.br_set s b _ _ ?_ c
  unfold State.takeGrant
  rw [h]
  dsimp only
  split <;> exact State.enterInrush_branches _ b

theorem State.br_foldl_joinQueue (l : List Branch) :
    (l.foldl State.joinQueue s).br c = if c ∈ l then (s.br c).moveTo .queued else s.br c := by
  induction l generalizing s with
  | nil => rfl
  | cons d l ih =>
    rw [List.foldl_cons, ih, State.br_joinQueue]
    by_cases hd : c = d
    · subst hd
      simp [BranchRec.moveTo, BranchRec.cancelTimers]
    · simp [hd]

/-- The state at a restart before the auto-start branches join the queue (R118). -/
def State.restartCleared (s : State) : State :=
  { s.mapBr (fun r => { r.toOff with lastCause := none }) with
    arbiter := s.arbiter.emptied
    load := s.load.calmed
    digest := Digest.default
    sig := if s.sig.state = .running then { s.sig with state := .aborted, progress := none, timer := none } else s.sig
    irq := if s.sig.state = .running then { s.irq with pending.sign := true } else s.irq
    log := s.log.take
      { kind := .restart, branch := none, cause := none, detail := s.autoStartCount, phase := none } s.time.ms }

theorem State.br_restartCleared : s.restartCleared.br b = { (s.br b).toOff with lastCause := none } :=
  State.br_mapBr s (fun r => { r.toOff with lastCause := none }) b

theorem State.restartCleared_profile : (s.restartCleared.br b).profile = (s.br b).profile := by
  rw [State.br_restartCleared]
  exact (congrArg BranchRec.profile (s.br b).toOff_inputs :)

/-- The auto-start branches in ascending number. -/
def State.autoStartBranches (s : State) : List Branch := allBranches.filter fun b => (s.br b).profile.autoStart

theorem State.takeRestart_eq :
    s.takeRestart = s.autoStartBranches.foldl State.joinQueue s.restartCleared := by
  have hcount : ∀ t : State, t.branches = s.restartCleared.branches → t.autoStartCount = s.autoStartCount :=
    fun t ht => by simp only [State.autoStartCount, State.br_congr ht, State.restartCleared_profile]
  have hjoin : s.restartCleared.autoStartBranches = s.autoStartBranches := by
    simp only [State.autoStartBranches, State.restartCleared_profile]
  rw [← hjoin]
  refine congrArg (fun t : State => t.autoStartBranches.foldl State.joinQueue t) ?_
  by_cases hrun : s.sig.state = .running
  · have hmap : (s.mapBr fun r => { r.toOff with lastCause := none }).sig.state = .running := hrun
    rw [if_pos hmap, hcount]
    · simp only [State.restartCleared, hrun, if_true]
      rfl
    · rfl
  · have hmap : (s.mapBr fun r => { r.toOff with lastCause := none }).sig.state ≠ .running := hrun
    rw [if_neg hmap, hcount]
    · simp only [State.restartCleared, hrun, if_false]
      rfl
    · rfl

@[simp] theorem State.mem_autoStartBranches : b ∈ s.autoStartBranches ↔ (s.br b).profile.autoStart = true := by
  simp [State.autoStartBranches]

theorem State.br_takeRestart :
    s.takeRestart.br b =
      { (s.br b).toOff with
        lastCause := none, state := if (s.br b).profile.autoStart then .queued else .off } := by
  rw [State.takeRestart_eq, State.br_foldl_joinQueue, State.br_restartCleared]
  cases h : (s.br b).profile.autoStart <;> simp [h] <;> rfl

end Records

/-! ### What a command can do to a branch

Everything a command with RESET# released can do to the record of one branch, each with what the command has checked.
The laws about single branches follow move by move. -/

/-- What shedding and recall can do to a branch: nothing, ON or QUEUED to SHED, or the drop to OFF (R98, R99, R105). -/
inductive BranchRec.ShedMove (r : BranchRec) : BranchRec → Prop
  | keep : ShedMove r r
  | shed : r.state = .on ∨ r.state = .queued → ShedMove r (r.moveTo .shed)
  | drop : ShedMove r r.toOff

/-- What a command c can do to branch b in state s. -/
inductive BranchMove (c : Instr) (s : State) (b : Branch) : BranchRec → Prop
  | keep : BranchMove c s b (s.br b)
  | shed {r : BranchRec} : (s.br b).ShedMove r → BranchMove c s b r
  | profile (f : ProfileField) (v : Byte) :
      (s.br b).state = .off → BranchMove c s b { s.br b with profile := (s.br b).profile.store f v }
  | restart (q : Bool) : s.estop = false →
      BranchMove c s b { (s.br b).toOff with lastCause := none, state := if q then .queued else .off }
  | queue : (s.estop = false ∧ (s.br b).state = .off) ∨ (s.br b).state = .dead ∨ b ∈ s.load.stack →
      BranchMove c s b ((s.br b).moveTo .queued)
  | grant : c = .grant → s.clocked → s.grantCondition = true → s.arbiter.queue.head? = some b →
      BranchMove c s b (s.br b).enteredInrush
  | trip (cause : TripCause) (sc oc : Bool) : (s.br b).state = .inrush ∨ (s.br b).state = .on →
      BranchMove c s b ({ s.br b with scLevel := sc, ocLevel := oc }.tripped cause)
  | complete : (s.br b).state = .inrush → BranchMove c s b { s.br b with pgLevel := true }.completed
  | sc (level : Bool) : (level = true → (s.br b).state ≠ .inrush ∧ (s.br b).state ≠ .on) →
      BranchMove c s b { s.br b with scLevel := level }
  | oc (level : Bool) : (s.br b).state ≠ .on → BranchMove c s b { s.br b with ocLevel := level }
  | ocStart (n : Nat) : (s.br b).state = .on → BranchMove c s b { s.br b with ocLevel := true, ocQualify := some n }
  | ocRelease : BranchMove c s b { s.br b with ocLevel := false, ocQualify := none }
  | pg (level : Bool) : (s.br b).state ≠ .on → (level = true → (s.br b).blankingDone = false) →
      BranchMove c s b { s.br b with pgLevel := level }
  | pgOn (level : Bool) (t : Timer) : (s.br b).state = .on → (t.isSome = true ↔ level = false) →
      BranchMove c s b { s.br b with pgLevel := level, pgLoss := t }
  | stopOc : (s.br b).state ≠ .on → BranchMove c s b { s.br b with ocQualify := none }
  | stopPg : (s.br b).state ≠ .on → BranchMove c s b { s.br b with pgLoss := none }
  | stopBlanking : (s.br b).state ≠ .inrush ∨ (s.br b).pgLevel = false →
      BranchMove c s b { s.br b with blanking := none }
  | stopRise : BranchMove c s b { s.br b with rise := none }
  | stopDead : (s.br b).state ≠ .dead → BranchMove c s b { s.br b with dead := none }
  | stopSettle : (s.br b).state ≠ .on → BranchMove c s b { s.br b with settle := none }
  | settled : (s.br b).state = .on → BranchMove c s b { s.br b with settle := none, attempts := 0 }

section Moves

variable {c : Instr} {s t : State} {b n : Branch}

/-- A command that leaves the branches alone. -/
theorem BranchMove.of_branches (h : t.branches = s.branches) : BranchMove c s b (t.br b) := by
  rw [State.br_congr h]
  exact .keep

/-- A command that changes one record. -/
theorem BranchMove.one {r : BranchRec} (ht : ∀ d, t.br d = if d = n then r else s.br d) (h : BranchMove c s n r) :
    BranchMove c s b (t.br b) := by
  rw [ht b]
  split
  next hb => exact hb ▸ h
  next => exact .keep

/-- The same with the branches given as they are set. -/
theorem BranchMove.set {r : BranchRec} (ht : t.branches = s.branches.set n r) (h : BranchMove c s n r) :
    BranchMove c s b (t.br b) := .one (State.br_set s n r t ht) h

theorem BranchMove.ite {p : Prop} [Decidable p] {u : State} (h : p → BranchMove c s b (t.br b))
    (h' : ¬p → BranchMove c s b (u.br b)) : BranchMove c s b ((if p then t else u).br b) := by
  split
  next hp => exact h hp
  next hp => exact h' hp

/-! #### Branch commands, all-off, restart -/

theorem State.closeCommand_move : BranchMove c s b (s.closeCommand.br b) := by
  unfold State.closeCommand
  split
  · exact .of_branches rfl
  next n _ =>
    refine .ite (fun _ => .of_branches rfl) fun he => .ite (fun hoff => ?_) (fun _ => .of_branches rfl)
    exact .set rfl (.queue (.inl ⟨eq_false_of_ne_true he, hoff⟩))

/-- OPEN of any branch but an OFF or a locked-out one sets its record to that of its entry to OFF. -/
theorem State.openBranch_branches :
    (s.openBranch n).branches =
      if (s.br n).state = .off ∨ (s.br n).state = .lockout then s.branches
      else s.branches.set n (s.br n).toOff := by
  unfold State.openBranch
  cases h : (s.br n).state <;> simp

theorem State.openCommand_move : BranchMove c s b (s.openCommand.br b) := by
  unfold State.openCommand
  split
  · exact .of_branches rfl
  next n _ =>
    by_cases h : (s.br n).state = .off ∨ (s.br n).state = .lockout
    · exact .of_branches (by rw [State.openBranch_branches, if_pos h])
    · exact .set (by rw [State.openBranch_branches, if_neg h]) (.shed .drop)

theorem State.rearmCommand_move : BranchMove c s b (s.rearmCommand.br b) := by
  unfold State.rearmCommand
  split
  · exact .of_branches rfl
  next n _ => exact .ite (fun _ => .set rfl (.shed .drop)) (fun _ => .of_branches rfl)

theorem State.allOffCommand_move : BranchMove c s b (s.allOffCommand.br b) := by
  have h : s.allOffCommand.br b = _ := State.br_takeAllOff s .command b
  rw [h]
  split
  · exact .shed .drop
  · exact .keep

theorem State.restartCommand_move : BranchMove c s b (s.restartCommand.br b) := by
  refine .ite (fun _ => .of_branches rfl) fun he => ?_
  rw [State.br_withResult, State.br_takeRestart]
  exact .restart _ (eq_false_of_ne_true he)

theorem State.writeCmd_move (code : Byte) : BranchMove c s b ((s.writeCmd code).br b) := by
  unfold State.writeCmd
  split
  · exact State.closeCommand_move
  · exact State.openCommand_move
  · exact State.rearmCommand_move
  · exact State.allOffCommand_move
  · exact State.restartCommand_move
  · refine .of_branches ?_
    unfold State.signCommand
    split
    · split <;> rfl
    · rfl
  · exact .of_branches rfl
  · refine .of_branches ?_
    unfold State.logAdvCommand
    split <;> rfl
  · exact .of_branches rfl
  · exact .of_branches rfl

/-! #### Writes of settings -/

theorem State.writeProfile_move (f : ProfileField) (v : Byte) : BranchMove c s b ((s.writeProfile f v).br b) := by
  refine .ite (fun _ => .of_branches rfl) fun hoff => .ite (fun _ => ?_) (fun _ => .of_branches rfl)
  refine .set (n := s.window.bptr) ?_ (.profile f v (not_not.mp hoff))
  unfold State.profileNotice
  split <;> rfl

theorem State.writePrescale_branches (v : Byte) : (s.writePrescale v).branches = s.branches := by
  simp [State.writePrescale, apply_ite State.branches]

theorem State.writeSlots_branches (v : Byte) : (s.writeSlots v).branches = s.branches := by
  simp [State.writeSlots, apply_ite State.branches]

theorem State.writeLogthr_branches (v : Byte) : (s.writeLogthr v).branches = s.branches := by
  simp [State.writeLogthr, apply_ite State.branches]

theorem State.acknowledge_branches (v : Byte) : (s.acknowledge v).branches = s.branches := by
  simp [State.acknowledge, apply_ite State.branches]

theorem State.writeIrqen_branches (v : Byte) : (s.writeIrqen v).branches = s.branches := by
  simp [State.writeIrqen, apply_ite State.branches]

theorem State.writeOther_branches (loc : Loc) (v : Byte) : (s.writeOther loc v).branches = s.branches := by
  unfold State.writeOther
  split <;> (try split) <;> rfl

theorem State.writeLocation_move (loc : Loc) (v : Byte) : BranchMove c s b ((s.writeLocation loc v).br b) := by
  unfold State.writeLocation
  cases profileFieldAt loc with
  | some f => exact State.writeProfile_move f v
  | none =>
    dsimp only
    split
    · exact State.writeCmd_move v
    · exact .of_branches (State.writePrescale_branches v)
    · exact .of_branches (State.writeSlots_branches v)
    · exact .of_branches (State.writeLogthr_branches v)
    · exact .of_branches (State.acknowledge_branches v)
    · exact .of_branches (State.writeIrqen_branches v)
    · exact .of_branches (State.writeOther_branches loc v)

/-! #### Events of the detectors -/

/-- Any trip of a branch in INRUSH or ON, also one with a timer of that state stopped before. -/
theorem BranchMove.tripped {r : BranchRec} {cause : TripCause} (h : (s.br n).state = .inrush ∨ (s.br n).state = .on)
    (hr : r.tripped cause = (s.br n).tripped cause) : BranchMove c s n (r.tripped cause) :=
  hr ▸ .trip cause (s.br n).scLevel (s.br n).ocLevel h

/-- The pin of an event does not matter to the branches. -/
theorem State.takeScAssertion_move {p : Pins} :
    BranchMove c s b ((State.takeScAssertion { s with pins := p } n).br b) := by
  have hstate : ((State.updBr { s with pins := p } n fun r => { r with scLevel := true }).br n).state =
      (s.br n).state := by
    rw [State.br_updBr, if_pos rfl]; rfl
  unfold State.takeScAssertion
  dsimp only
  rw [hstate]
  have trip : ∀ ph, (s.br n).state = .inrush ∨ (s.br n).state = .on →
      BranchMove c s b ((State.takeTrip
        (State.updBr { s with pins := p } n fun r => { r with scLevel := true }) n .sc ph).br b) := fun ph h => by
    refine .one (n := n) (fun d => ?_) (.trip .sc true (s.br n).ocLevel h)
    rw [State.br_takeTrip, State.br_updBr, State.br_updBr, if_pos rfl]
    split <;> rfl
  split
  next h => exact trip _ (.inl h)
  next h => exact trip _ (.inr h)
  all_goals next h => exact .set rfl (.sc true fun _ => by simp [h])

theorem State.takeOcAssertion_move {p : Pins} :
    BranchMove c s b ((State.takeOcAssertion { s with pins := p } n).br b) := by
  rw [State.takeOcAssertion_eq]
  refine .ite (fun hon => ?_) (fun hon => .set rfl (.oc true hon))
  have hon : (s.br n).state = .on := hon
  refine .set (n := n) (r := BranchRec.overcurrent { s.br n with ocLevel := true }) ?_ ?_
  · rw [State.overcurrent_branches, State.br_recordOc]
    simp only [State.recordOc, State.updBr_branches, Vector.set_set]
    rfl
  · unfold BranchRec.overcurrent
    split
    · exact .trip .oc (s.br n).scLevel true (.inr hon)
    · exact .ocStart _ hon

theorem State.takePgAssertion_move {p : Pins} :
    BranchMove c s b ((State.takePgAssertion { s with pins := p } n).br b) := by
  rw [State.takePgAssertion_eq]
  refine .ite (fun hdone => ?_) fun hdone => .ite (fun hon => ?_) (fun hon => .set rfl (.pg true hon fun _ => ?_))
  · refine .one (n := n) (fun d => ?_) (.complete (BranchRec.blankingDone_iff.mp hdone).1)
    rw [State.br_complete, State.br_recordPg, State.recordPg, State.br_updBr]
    split <;> rfl
  · exact .set rfl (.pgOn true none hon (by simp))
  · exact eq_false_of_ne_true hdone

theorem State.takePgRelease_move {p : Pins} :
    BranchMove c s b ((State.takePgRelease { s with pins := p } n).br b) := by
  rw [State.takePgRelease_eq]
  exact .ite (fun hon => .set rfl (.pgOn false (some _) hon (by simp))) (fun hon => .set rfl (.pg false hon nofun))

/-- A trip cancels the timers of the state it leaves, running or not. -/
theorem BranchRec.tripped_of_on {r : BranchRec} (h : r.state = .on) (oc pg : Timer) (cause : TripCause) :
    BranchRec.tripped { r with ocQualify := oc, pgLoss := pg } cause = r.tripped cause := by
  simp [BranchRec.tripped, BranchRec.moveTo, BranchRec.cancelTimers, h]

theorem BranchRec.tripped_of_inrush {r : BranchRec} (h : r.state = .inrush) (rise : Timer) (cause : TripCause) :
    BranchRec.tripped { r with rise := rise } cause = r.tripped cause := by
  simp [BranchRec.tripped, BranchRec.moveTo, BranchRec.cancelTimers, h]

theorem BranchRec.completed_of_inrush {r : BranchRec} (h : r.state = .inrush) (blanking : Timer) :
    BranchRec.completed { r with blanking := blanking } = r.completed := by
  simp [BranchRec.completed, BranchRec.moveTo, BranchRec.cancelTimers, h]

theorem BranchRec.moveTo_of_dead {r : BranchRec} (h : r.state = .dead) (dead : Timer) (st : BranchState) :
    BranchRec.moveTo { r with dead := dead } st = r.moveTo st := by
  simp [BranchRec.moveTo, BranchRec.cancelTimers, h]

/-- The shape of the expiries of a branch's timers: nothing if it is stopped, else the timer stops, and in its state an
operation on the branch follows. -/
theorem BranchMove.expiry {stop : BranchRec → BranchRec} {p q : Prop} [Decidable p] [Decidable q] {u : State}
    {r : BranchRec} (hu : q → ∀ d, u.br d = if d = n then r else (s.updBr n stop).br d)
    (htaken : q → BranchMove c s n r) (hstop : ¬q → BranchMove c s n (stop (s.br n))) :
    BranchMove c s b ((if p then s else if q then u else s.updBr n stop).br b) := by
  refine .ite (fun _ => .keep) fun _ => .ite (fun hq => .one (fun d => ?_) (htaken hq)) (fun hq => .set rfl (hstop hq))
  rw [hu hq, State.br_updBr]
  split <;> rfl

theorem State.expireOcQualify_move : BranchMove c s b ((s.expireOcQualify n).br b) := by
  refine .expiry (fun _ d => State.br_takeTrip ..) (fun hq => ?_) (fun hq => ?_)
  all_goals rw [State.br_updBr, if_pos rfl] at hq
  · have hon : (s.br n).state = .on := hq
    rw [State.br_updBr, if_pos rfl]
    exact .tripped (.inr hon) (BranchRec.tripped_of_on hon none (s.br n).pgLoss _)
  · exact .stopOc hq

theorem State.expirePgLoss_move : BranchMove c s b ((s.expirePgLoss n).br b) := by
  refine .expiry (fun _ d => State.br_takeTrip ..) (fun hq => ?_) (fun hq => ?_)
  all_goals rw [State.br_updBr, if_pos rfl] at hq
  · have hon : (s.br n).state = .on := hq
    rw [State.br_updBr, if_pos rfl]
    exact .tripped (.inr hon) (BranchRec.tripped_of_on hon (s.br n).ocQualify none _)
  · exact .stopPg hq

theorem State.expireRise_move : BranchMove c s b ((s.expireRise n).br b) := by
  refine .expiry (fun _ d => State.br_takeTrip ..) (fun hq => ?_) (fun _ => .stopRise)
  rw [State.br_updBr, if_pos rfl] at hq ⊢
  have hinrush : (s.br n).state = .inrush := hq.1
  exact .tripped (.inl hinrush) (BranchRec.tripped_of_inrush hinrush none _)

theorem State.expireBlanking_move : BranchMove c s b ((s.expireBlanking n).br b) := by
  refine .expiry (fun _ d => State.br_complete ..) (fun hq => ?_) (fun hq => ?_)
  all_goals rw [State.br_updBr, if_pos rfl] at hq
  · obtain ⟨hinrush, hpg⟩ := hq
    have hinrush : (s.br n).state = .inrush := hinrush
    have hpg : { s.br n with pgLevel := true } = s.br n :=
      congrArg (fun l => { s.br n with pgLevel := l }) (Eq.symm hpg)
    rw [State.br_updBr, if_pos rfl, BranchRec.completed_of_inrush hinrush]
    have h := BranchMove.complete (c := c) hinrush
    rwa [hpg] at h
  · refine .stopBlanking ?_
    by_cases hinrush : (s.br n).state = .inrush
    · exact .inr (eq_false_of_ne_true fun hpg => hq ⟨hinrush, hpg⟩)
    · exact .inl hinrush

theorem State.expireDead_move : BranchMove c s b ((s.expireDead n).br b) := by
  refine .expiry (fun _ d => State.br_joinQueue ..) (fun hq => ?_) (fun hq => ?_)
  all_goals rw [State.br_updBr, if_pos rfl] at hq
  · have hdead : (s.br n).state = .dead := hq
    rw [State.br_updBr, if_pos rfl, BranchRec.moveTo_of_dead hdead]
    exact .queue (.inr (.inl hdead))
  · exact .stopDead hq

theorem State.expireSettle_move : BranchMove c s b ((s.expireSettle n).br b) := by
  refine .expiry (fun _ d => State.br_updBr ..) (fun hq => ?_) (fun hq => ?_)
  all_goals rw [State.br_updBr, if_pos rfl] at hq
  · rw [State.br_updBr, if_pos rfl]
    exact .settled hq
  · exact .stopSettle hq

/-! #### Shedding, recall and restore -/

/-- A move to SHED and the drop from there are the drop. -/
@[simp] theorem BranchRec.toOff_moveTo_shed (r : BranchRec) : (r.moveTo .shed).toOff = r.toOff := by
  rfl

end Moves

section Victim

variable {s : State} {v w : Branch} {l : List Branch}

/-! ### The victim of a shed step (R97) -/

/-- The branch that the search has found after the branches of l. -/
def State.IsVictimAmong (s : State) (l : List Branch) (v : Branch) : Prop :=
  v ∈ l ∧ (s.br v).state = .on ∧ 1 ≤ s.priority v
    ∧ ∀ c ∈ l, (s.br c).state = .on → 1 ≤ s.priority c →
      s.priority c < s.priority v ∨ (s.priority c = s.priority v ∧ c ≤ v)

theorem State.isVictimAmong_allBranches : s.IsVictimAmong allBranches v ↔ IsVictim s v := by
  simp [State.IsVictimAmong]

/-- The search through ascending numbers finds the best of those it has passed, or nothing if there is none. -/
theorem State.foldl_betterVictim (hl : l.Pairwise (· < ·)) :
    (∀ v, l.foldl s.betterVictim none = some v → s.IsVictimAmong l v)
      ∧ (l.foldl s.betterVictim none = none → ∀ c ∈ l, ¬((s.br c).state = .on ∧ 1 ≤ s.priority c)) := by
  induction l using List.reverseRecOn with
  | nil => simp
  | append_singleton l b ih =>
    rw [List.pairwise_append] at hl
    obtain ⟨hl, -, hlt⟩ := hl
    have hlt : ∀ c ∈ l, c < b := fun c hc => hlt c hc b (by simp)
    obtain ⟨hsome, hnone⟩ := ih hl
    rw [List.foldl_concat]
    generalize l.foldl s.betterVictim none = best at hsome hnone
    unfold State.betterVictim
    split
    next hb =>
      cases best with
      | none =>
        refine ⟨fun v hv => ?_, nofun⟩
        obtain rfl := Option.some.inj hv
        refine ⟨by simp, hb.1, hb.2, fun c hc hon hprio => ?_⟩
        rcases List.mem_append.mp hc with hc | hc
        · exact absurd ⟨hon, hprio⟩ (hnone rfl c hc)
        · exact .inr ⟨by rw [List.mem_singleton.mp hc], (List.mem_singleton.mp hc).le⟩
      | some w =>
        obtain ⟨hw, hwon, hwprio, hbest⟩ := hsome w rfl
        dsimp only
        refine ⟨fun v hv => ?_, fun h => by split at h <;> cases h⟩
        split at hv <;> obtain rfl := Option.some.inj hv
        next hle =>
          refine ⟨by simp, hb.1, hb.2, fun c hc hon hprio => ?_⟩
          rcases List.mem_append.mp hc with hc | hc
          · have hcw : s.priority c ≤ s.priority w := (hbest c hc hon hprio).elim Nat.le_of_lt fun h => h.1.le
            exact (Nat.lt_or_eq_of_le (hcw.trans hle)).imp_right fun h => ⟨h, (hlt c hc).le⟩
          · exact .inr ⟨by rw [List.mem_singleton.mp hc], (List.mem_singleton.mp hc).le⟩
        next hle =>
          refine ⟨by simp [hw], hwon, hwprio, fun c hc hon hprio => ?_⟩
          rcases List.mem_append.mp hc with hc | hc
          · exact hbest c hc hon hprio
          · obtain rfl := List.mem_singleton.mp hc
            exact .inl (Nat.lt_of_not_le hle)
    next hb =>
      refine ⟨fun v hv => ?_, fun h c hc => ?_⟩
      · obtain ⟨hmem, hon, hprio, hbest⟩ := hsome v hv
        refine ⟨by simp [hmem], hon, hprio, fun c hc hcon hcprio => ?_⟩
        rcases List.mem_append.mp hc with hc | hc
        · exact hbest c hc hcon hcprio
        · exact absurd (List.mem_singleton.mp hc ▸ ⟨hcon, hcprio⟩) hb
      · rcases List.mem_append.mp hc with hc | hc
        · exact hnone h c hc
        · exact List.mem_singleton.mp hc ▸ hb

theorem allBranches_pairwise_lt : allBranches.Pairwise (· < ·) := by decide

/-- There is one victim at most. -/
theorem IsVictim.unique (hv : IsVictim s v) (hw : IsVictim s w) : v = w := by
  obtain ⟨hvon, hvprio, hvbest⟩ := hv
  obtain ⟨hwon, hwprio, hwbest⟩ := hw
  rcases hvbest w hwon hwprio with hlt | ⟨heq, hwv⟩
  · rcases hwbest v hvon hvprio with hlt' | ⟨heq', -⟩ <;> omega
  · rcases hwbest v hvon hvprio with hlt' | ⟨-, hvw⟩
    · omega
    · exact le_antisymm hvw hwv

theorem State.victim_eq_none_iff :
    s.victim = none ↔ ∀ c, (s.br c).state = .on → s.priority c = 0 := by
  obtain ⟨hsome, hnone⟩ := State.foldl_betterVictim (s := s) allBranches_pairwise_lt
  constructor
  · intro h c hon
    have := hnone h c (mem_allBranches c)
    by_contra h0
    exact this ⟨hon, Nat.one_le_iff_ne_zero.mpr h0⟩
  · intro h
    refine Option.eq_none_iff_forall_ne_some.mpr fun v hv => ?_
    obtain ⟨-, hon, hprio, -⟩ := hsome v hv
    have := h v hon
    omega

/-- The model's victim is the manual's. -/
theorem State.victim_eq_some_iff : s.victim = some v ↔ IsVictim s v := by
  obtain ⟨hsome, -⟩ := State.foldl_betterVictim (s := s) allBranches_pairwise_lt
  have found : ∀ w, s.victim = some w → IsVictim s w := fun w hw => State.isVictimAmong_allBranches.mp (hsome w hw)
  refine ⟨found v, fun hv => ?_⟩
  cases h : s.victim with
  | none =>
    have := State.victim_eq_none_iff.mp h v hv.1
    have := hv.2.1
    omega
  | some w => rw [(found w h).unique hv]

end Victim

/-! ### What shedding, recall and restore do to a branch -/

section Shedding

variable {s : State} {b v : Branch}

@[simp] theorem State.br_exhaust : s.exhaust.br b = s.br b := by
  unfold State.exhaust
  split <;> rfl

/-- The victim goes to SHED, and then the bottom of a full stack to OFF. -/
theorem State.br_shedVictim :
    (s.shedVictim v).br b =
      if Config.stackCapacity ≤ s.load.stack.length ∧ s.load.stack.getLast? = some b then
        (if b = v then (s.br v).moveTo .shed else s.br b).toOff
      else if b = v then (s.br v).moveTo .shed else s.br b := by
  have pushed : ∀ t : State, t.branches = s.branches.set v ((s.br v).moveTo .shed) →
      t.br b = if b = v then (s.br v).moveTo .shed else s.br b := fun t ht => State.br_set s v _ t ht b
  by_cases hfull : Config.stackCapacity ≤ s.load.stack.length
  · cases hlast : s.load.stack.getLast? with
    | none =>
      simp only [State.shedVictim, hfull, hlast, decide_true, reduceCtorEq, and_false, if_false]
      exact pushed _ rfl
    | some d =>
      simp only [State.shedVictim, hfull, hlast, decide_true, true_and, Option.some.injEq]
      rw [State.br_latch, State.br_offer, State.br_updBr]
      by_cases hd : b = d
      · subst hd
        rw [if_pos rfl, if_pos rfl]
        exact congrArg BranchRec.toOff (pushed _ rfl)
      · rw [if_neg hd, if_neg (Ne.symm hd)]
        exact pushed _ rfl
  · simp only [State.shedVictim, hfull, decide_false, false_and, if_false]
    exact pushed _ rfl

/-- An entry to OFF from OFF is nothing new. -/
@[simp] theorem BranchRec.toOff_toOff (r : BranchRec) : r.toOff.toOff = r.toOff := rfl

theorem BranchRec.ShedMove.trans {r r' r'' : BranchRec} (h : r.ShedMove r') (h' : r'.ShedMove r'') :
    r.ShedMove r'' := by
  cases h with
  | keep => exact h'
  | shed hr =>
    cases h' with
    | keep => exact .shed hr
    | shed hs => exact absurd hs (by rintro (h | h) <;> cases h)
    | drop => rw [BranchRec.toOff_moveTo_shed]; exact .drop
  | drop =>
    cases h' with
    | keep | drop => exact .drop
    | shed hs => exact absurd hs (by rintro (h | h) <;> cases h)

theorem State.shedStep_shedMove : (s.br b).ShedMove (s.shedStep.br b) := by
  unfold State.shedStep
  cases hv : s.victim with
  | none => exact State.br_exhaust ▸ .keep
  | some v =>
    have hon : (s.br v).state = .on := (State.victim_eq_some_iff.mp hv).1
    have moved : (s.br b).ShedMove (if b = v then (s.br v).moveTo .shed else s.br b) := by
      split
      next hb => subst hb; exact .shed (.inl hon)
      next => exact .keep
    dsimp only
    rw [State.br_shedVictim]
    split
    · exact moved.trans .drop
    · exact moved

theorem State.startShedding_shedMove : (s.br b).ShedMove (s.startShedding.br b) :=
  State.shedStep_shedMove (s := { s.startShedTimer with load.mode := .shedding })

theorem State.br_recall :
    s.recall.br b =
      if s.load.inFlight = some b ∧ (s.br b).state = .queued then (s.br b).moveTo .shed else s.br b := by
  unfold State.recall
  cases hf : s.load.inFlight with
  | none => simp only [reduceCtorEq, false_and, if_false]; rfl
  | some d =>
    simp only [Option.some.injEq]
    split
    next hq =>
      have hq : (s.br d).state = .queued := hq
      refine (State.br_set s d _ _ rfl b).trans ?_
      by_cases hb : b = d
      · subst hb
        simp [hq]
        rfl
      · simp [hb, Ne.symm hb]
    next hq =>
      have hq : (s.br d).state ≠ .queued := hq
      rw [if_neg (fun h : d = b ∧ (s.br b).state = .queued => hq (h.1 ▸ h.2))]
      rfl

theorem State.recall_shedMove : (s.br b).ShedMove (s.recall.br b) := by
  rw [State.br_recall]
  split
  next h => exact .shed (.inr h.2)
  next => exact .keep

theorem State.qualifiedRise_shedMove : (s.br b).ShedMove (s.qualifiedRise.br b) := by
  unfold State.qualifiedRise
  dsimp only
  split
  · exact State.startShedding_shedMove (s := { s.latch .stress with load.qualified := true })
  · exact State.startShedding_shedMove (s := { s.latch .stress with load.qualified := true, load.holdTimer := none })
  · exact (State.recall_shedMove (s := { s.latch .stress with load.qualified := true })).trans
      State.startShedding_shedMove
  · exact .keep

theorem State.qualifiedFall_branches : s.qualifiedFall.branches = s.branches := by
  rw [State.qualifiedFall_eq]
  split <;> rfl

/-- A restore step queues the top of the stack. -/
theorem State.br_restoreStep {rest : List Branch} (h : s.load.stack = v :: rest) :
    s.restoreStep.br b = if b = v then (s.br v).moveTo .queued else s.br b := by
  unfold State.restoreStep
  rw [h]
  exact State.br_joinQueue ..

variable {c : Instr} {u : State}

/-- A stopped timer of the load manager does not matter to the branch that the restore takes from the stack. -/
theorem State.restoreOrCalm_move (hbr : u.branches = s.branches) (hstack : u.load.stack = s.load.stack) :
    BranchMove c s b (u.restoreOrCalm.br b) := by
  unfold State.restoreOrCalm
  cases hs : u.load.stack with
  | nil => exact .of_branches hbr
  | cons v rest =>
    refine .one (n := v) (fun d => ?_) (.queue (.inr (.inr (by rw [← hstack, hs]; exact .head _))))
    rw [← State.br_congr hbr v, ← State.br_congr hbr d]
    exact State.br_restoreStep (s := { u with load.mode := .restoring }) hs

theorem State.expireHold_move : BranchMove c s b (s.expireHold.br b) :=
  .ite (fun _ => .keep) fun _ => .ite (fun _ => State.restoreOrCalm_move rfl rfl) fun _ => .of_branches rfl

theorem State.expireSpacing_move : BranchMove c s b (s.expireSpacing.br b) :=
  .ite (fun _ => .keep) fun _ => .ite (fun _ => State.restoreOrCalm_move rfl rfl) fun _ => .of_branches rfl

theorem State.expireShedInterval_move : BranchMove c s b (s.expireShedInterval.br b) :=
  .ite (fun _ => .keep) fun _ =>
    .ite (fun _ => .shed (State.shedStep_shedMove (s := { s with load.shedTimer := none }))) fun _ => .of_branches rfl

theorem State.expireStressQualify_move : BranchMove c s b (s.expireStressQualify.br b) :=
  .ite (fun _ => .keep) fun _ => .shed (State.qualifiedRise_shedMove (s := { s with load.qualifyTimer := none }))

/-- The pin and the level record of the input do not matter to the branches. -/
theorem State.takeStressAssertion_move {p : Pins} {i : StressInput} :
    BranchMove c s b ((State.takeStressAssertion { s with pins := p } i).br b) :=
  .ite (fun _ => .of_branches rfl) fun _ =>
    .ite (fun _ => .shed (State.qualifiedRise_shedMove (s := { s with pins := p, load := s.load.setLevel i true })))
      fun _ => .of_branches rfl

theorem State.takeStressRelease_move {p : Pins} {i : StressInput} :
    BranchMove c s b ((State.takeStressRelease { s with pins := p } i).br b) :=
  .ite (fun _ => .of_branches rfl) fun _ =>
    .ite (fun _ => .of_branches (State.qualifiedFall_branches (s := _))) fun _ => .of_branches rfl

/-! ### What every command with RESET# released does to a branch -/

theorem State.takeEstopAssertion_move {p : Pins} :
    BranchMove c s b ((State.takeEstopAssertion { s with pins := p }).br b) := by
  have h : (State.takeEstopAssertion { s with pins := p }).br b = _ :=
    State.br_takeAllOff { s with pins := p, estop := true } .pin b
  rw [h]
  split
  · exact .shed .drop
  · exact .keep

theorem State.takeGrant_move (hc : s.clocked) :
    BranchMove .grant s b ((if s.grantCondition then s.takeGrant else s).br b) := by
  refine .ite (fun hg => ?_) fun _ => .keep
  cases hq : s.arbiter.queue with
  | nil => simp [State.grantCondition, hq] at hg
  | cons d rest => exact .one (n := d) (fun e => State.br_takeGrant s d e hq) (.grant rfl hc hg (by rw [hq]; rfl))

theorem State.signCommand_branches : s.signCommand.branches = s.branches := by
  unfold State.signCommand
  split
  · split <;> rfl
  · rfl

theorem State.logAdvCommand_branches : s.logAdvCommand.branches = s.branches := by
  unfold State.logAdvCommand
  split <;> rfl

theorem State.expireSignature_branches : s.expireSignature.branches = s.branches := by
  unfold State.expireSignature
  split
  · rfl
  · split
    · dsimp only
      split <;> rfl
    · rfl

theorem BranchMove.whenTicking {f : State → State} (h : BranchMove c s b ((f s).br b)) :
    BranchMove c s b ((s.whenTicking f).br b) := .ite (fun _ => h) fun _ => .keep

theorem State.taken_move (s : State) (b : Branch) (hr : s.running) {c : Instr} (ha : c ≠ .resetAssertion)
    (hh : c ≠ .hardwareReset) : BranchMove c s b ((s.taken c).br b) := by
  cases c with
  | resetAssertion => exact absurd rfl ha
  | hardwareReset => exact absurd rfl hh
  | close => exact State.closeCommand_move
  | openBranch => exact State.openCommand_move
  | rearm => exact State.rearmCommand_move
  | allOff => exact State.allOffCommand_move
  | restart => exact State.restartCommand_move
  | sign => exact .of_branches State.signCommand_branches
  | logAdv => exact .of_branches State.logAdvCommand_branches
  | digestClr | logClr | msloRead | logdataRead => exact .of_branches rfl
  | unknownCommand code => exact State.writeCmd_move code
  | profileWrite f v => exact State.writeProfile_move f v
  | prescaleWrite v => exact .of_branches (State.writePrescale_branches v)
  | slotsWrite v => exact .of_branches (State.writeSlots_branches v)
  | irqpendAcknowledge v => exact .of_branches (State.acknowledge_branches v)
  | irqenWrite v => exact .of_branches (State.writeIrqen_branches v)
  | logthrWrite v => exact .of_branches (State.writeLogthr_branches v)
  | registerWrite loc v => exact State.writeLocation_move loc v
  | scAssertion n => exact .ite (fun _ => .keep) fun _ => State.takeScAssertion_move
  | scRelease n => exact .ite (fun _ => .keep) fun _ => .set rfl (.sc false nofun)
  | ocAssertion n => exact .ite (fun _ => .keep) fun _ => State.takeOcAssertion_move
  | ocRelease n => exact .ite (fun _ => .keep) fun _ => .set rfl .ocRelease
  | pgAssertion n => exact .ite (fun _ => .keep) fun _ => State.takePgAssertion_move
  | pgRelease n => exact .ite (fun _ => .keep) fun _ => State.takePgRelease_move
  | stressInputAssertion i => exact .ite (fun _ => .keep) fun _ => State.takeStressAssertion_move
  | stressInputRelease i => exact .ite (fun _ => .keep) fun _ => State.takeStressRelease_move
  | estopAssertion => exact .ite (fun _ => .keep) fun _ => State.takeEstopAssertion_move
  | estopRelease => exact .ite (fun _ => .keep) fun _ => .of_branches rfl
  | millisecondBoundary => exact .whenTicking (.of_branches rfl)
  | ocQualifyExpiry n => exact .whenTicking State.expireOcQualify_move
  | pgLossExpiry n => exact .whenTicking State.expirePgLoss_move
  | blankingExpiry n => exact .whenTicking State.expireBlanking_move
  | riseExpiry n => exact .whenTicking State.expireRise_move
  | deadExpiry n => exact .whenTicking State.expireDead_move
  | settleExpiry n => exact .whenTicking State.expireSettle_move
  | staggerExpiry => exact .whenTicking (.of_branches rfl)
  | stressQualifyExpiry => exact .whenTicking State.expireStressQualify_move
  | shedIntervalExpiry => exact .whenTicking State.expireShedInterval_move
  | holdExpiry => exact .whenTicking State.expireHold_move
  | restoreSpacingExpiry => exact .whenTicking State.expireSpacing_move
  | signatureRecordExpiry => exact .whenTicking (.of_branches State.expireSignature_branches)
  | grant =>
    by_cases hclk : s.pins.clkin = true
    · exact .whenTicking (State.takeGrant_move ⟨hr, hclk⟩)
    · exact .of_branches (congrArg State.branches (if_neg hclk))

end Shedding

/-! ### What a step does to a branch -/

/-- A command moves a branch, also with RESET# held, or puts it at its reset values. -/
theorem exec_branch {c : Instr} {s t : State} (h : exec c s = .next t) (b : Branch) :
    BranchMove c s b (t.br b)
      ∨ ∃ sc oc pg, t.br b = { BranchRec.default with scLevel := sc, ocLevel := oc, pgLevel := pg } := by
  by_cases hh : c = .hardwareReset
  · subst hh
    obtain rfl := Host.Outcome.next.inj h
    exact .inr ⟨_, _, _, State.br_releaseReset _ b⟩
  · cases hr : s.pins.reset with
    | true =>
      rw [exec_held hr hh] at h
      obtain rfl := Host.Outcome.next.inj h
      exact .inl (.of_branches rfl)
    | false =>
      rw [exec_running hr] at h
      obtain rfl := Host.Outcome.next.inj h
      by_cases ha : c = .resetAssertion
      · subst ha
        exact .inr ⟨_, _, _, State.br_holdReset _ b⟩
      · exact .inl (State.taken_move s b hr ha hh)

/-- A period of CLKIN leaves a branch or counts its timers down. -/
theorem State.br_clockPeriod (s : State) (b : Branch) :
    s.clockPeriod.br b = s.br b ∨ s.clockPeriod.br b = (s.br b).countDown := by
  rw [State.clockPeriod_eq]
  split
  · exact .inr (State.br_endTick s b)
  · exact .inl rfl

/-- With no command waiting a step leaves a branch or counts its timers down. -/
theorem State.br_idle {s : State} (hp : s.pending = []) (b : Branch) :
    s.idle.br b = s.br b ∨ s.idle.br b = (s.br b).countDown := by
  rcases State.idle_cases hp with ⟨-, e⟩ | ⟨-, -, e⟩ | ⟨-, -, e⟩ | ⟨-, -, -, e⟩ <;> rw [e]
  · exact .inl rfl
  · exact State.br_clockPeriod _ b
  · exact .inl rfl
  · exact State.br_clockPeriod _ b

/-- A step moves a branch by a command, leaves it, counts its timers down, or puts it at its reset values. -/
theorem step_branch {s t : State} (h : step s = .next t) (b : Branch) :
    (∃ c rest, BranchMove c { s with pending := rest } b (t.br b)) ∨ t.br b = (s.br b).countDown
      ∨ ∃ sc oc pg, t.br b = { BranchRec.default with scLevel := sc, ocLevel := oc, pgLevel := pg } := by
  rcases step_cases h with ⟨hp, rfl⟩ | ⟨c, rest, -, he⟩
  · rcases State.br_idle hp b with e | e
    · exact .inl ⟨.grant, [], e ▸ .keep⟩
    · exact .inr (.inl e)
  · exact (exec_branch he b).imp (fun hmove => ⟨c, rest, hmove⟩) .inr

/-! ### Timers and attempt counts (R16, R22, R56, R57, R59, R63, R64) -/

section BranchesLawful

variable {c : Instr} {s : State} {b : Branch} {r r' : BranchRec}

/-- A branch with its timers and its attempt count lawful. -/
def BranchRec.lawful (r : BranchRec) : Prop := r.timersLawful ∧ r.attemptsLawful

/-- The record with no timer running. -/
def BranchRec.stopped (r : BranchRec) : BranchRec :=
  { r with blanking := none, rise := none, ocQualify := none, pgLoss := none, dead := none, settle := none }

/-- A change of state from a lawful record cancels every timer that runs (R22). -/
theorem BranchRec.timersLawful.cancelTimers (h : r.timersLawful) : r.cancelTimers = r.stopped := by
  obtain ⟨hinrush, hon, -, hdead⟩ := h
  cases r with
  | mk profile state attempts lastCause scLevel ocLevel pgLevel blanking rise ocQualify pgLoss dead settle =>
    cases state <;>
      simp only [ne_eq, reduceCtorEq, not_false_eq_true, not_true, forall_const, iff_false, iff_true,
        IsEmpty.forall_iff, Option.not_isSome_iff_eq_none] at hinrush hon hdead <;>
      simp [BranchRec.cancelTimers, BranchRec.stopped, hinrush, hon, hdead]

/-- With no timer running, all that counts is the state. -/
theorem BranchRec.stopped_timersLawful {st : BranchState} (hdead : st ≠ .dead)
    (hon : st = .on → r.attempts = 0) : BranchRec.timersLawful { r.stopped with state := st } := by
  refine ⟨fun _ => ⟨rfl, rfl⟩, fun _ => ⟨rfl, rfl, rfl⟩, fun h => ?_, ?_⟩
  · simp [BranchRec.stopped, hon h]
  · simpa [BranchRec.stopped] using hdead

/-- A change to a state that runs no timer and asks nothing of the count. -/
theorem BranchRec.lawful.moveTo (h : r.lawful) {st : BranchState} (hst : st = .queued ∨ st = .inrush ∨ st = .shed) :
    (r.moveTo st).lawful := by
  obtain ⟨htimers, hle, -, -, -⟩ := h
  rw [BranchRec.moveTo, htimers.cancelTimers]
  rcases hst with rfl | rfl | rfl <;> exact ⟨BranchRec.stopped_timersLawful nofun nofun, hle, nofun, nofun, nofun⟩

theorem BranchRec.lawful.toOff (h : r.lawful) : r.toOff.lawful := by
  rw [BranchRec.toOff, BranchRec.moveTo, h.1.cancelTimers]
  exact ⟨⟨fun _ => ⟨rfl, rfl⟩, fun _ => ⟨rfl, rfl, rfl⟩, nofun, by simp [BranchRec.stopped]⟩,
    Nat.zero_le _, fun _ => rfl, nofun, nofun⟩

/-- A trip that finds the count below BUDGET raises it; any other finds it at BUDGET (R56, R57). -/
theorem BranchRec.lawful.tripped (h : r.lawful) (cause : TripCause) : (r.tripped cause).lawful := by
  obtain ⟨htimers, hle, -, -, -⟩ := h
  unfold BranchRec.tripped BranchRec.moveTo
  rw [htimers.cancelTimers]
  split
  next hlt =>
    exact ⟨⟨fun _ => ⟨rfl, rfl⟩, fun _ => ⟨rfl, rfl, rfl⟩, nofun, by simp⟩, hlt, nofun, fun _ => Nat.succ_pos _, nofun⟩
  next hlt =>
    exact ⟨⟨fun _ => ⟨rfl, rfl⟩, fun _ => ⟨rfl, rfl, rfl⟩, nofun, by simp [BranchRec.stopped]⟩, hle, nofun, nofun,
      fun _ => Nat.le_antisymm hle (Nat.not_lt.mp hlt)⟩

/-- A branch in ON may start its OC qualify timer. -/
theorem BranchRec.lawful.overcurrent (h : r.lawful) (hon : r.state = .on) : r.overcurrent.lawful := by
  unfold BranchRec.overcurrent
  split
  · exact h.tripped .oc
  · obtain ⟨⟨hinrush, -, hsettle, hdead⟩, hattempts⟩ := h
    exact ⟨⟨hinrush, fun hn => absurd hon hn, hsettle, hdead⟩, hattempts⟩

theorem BranchRec.lawful.examined (h : r.lawful) (hon : r.state = .on) : r.examined.lawful := by
  unfold BranchRec.examined
  split
  · exact h.tripped .sc
  · split
    · exact h.overcurrent hon
    · exact h

/-- An entry to ON starts the settle timer exactly with a count above 0 (R63). -/
theorem BranchRec.lawful.completed (h : r.lawful) : r.completed.lawful := by
  obtain ⟨htimers, hle, -, -, -⟩ := h
  unfold BranchRec.completed BranchRec.moveTo BranchRec.startSettle
  rw [htimers.cancelTimers]
  split
  next hpos =>
    refine BranchRec.lawful.examined ⟨⟨fun _ => ⟨rfl, rfl⟩, fun hn => absurd rfl hn, fun _ => ?_, ?_⟩, hle, nofun,
      nofun, nofun⟩ rfl
    · exact iff_of_true rfl hpos
    · simp [BranchRec.stopped]
  next hpos =>
    exact BranchRec.lawful.examined ⟨BranchRec.stopped_timersLawful nofun fun _ => Nat.eq_zero_of_not_pos hpos, hle,
      nofun, nofun, nofun⟩ rfl

theorem BranchRec.lawful.enteredInrush (h : r.lawful) : r.enteredInrush.lawful := by
  have hmoved : (r.moveTo .inrush).lawful := h.moveTo (.inr (.inl rfl))
  unfold BranchRec.enteredInrush
  split
  · exact hmoved.tripped .sc
  · obtain ⟨⟨-, hon, hsettle, hdead⟩, hattempts⟩ := hmoved
    exact ⟨⟨fun hn => absurd rfl hn, hon, hsettle, hdead⟩, hattempts⟩

theorem BranchRec.ShedMove.lawful (h : r.ShedMove r') (hr : r.lawful) : r'.lawful := by
  cases h with
  | keep => exact hr
  | shed _ => exact hr.moveTo (.inr (.inr rfl))
  | drop => exact hr.toOff

/-- Every move of a branch keeps its timers and its attempt count lawful. -/
theorem BranchMove.lawful (h : BranchMove c s b r) (hs : (s.br b).lawful) : r.lawful := by
  cases h with
  | keep => exact hs
  | shed h => exact h.lawful hs
  | restart q _ =>
    obtain ⟨⟨hinrush, hon, -, hdead⟩, hle, -⟩ := hs.toOff
    cases q
    · exact hs.toOff
    · exact ⟨⟨fun _ => hinrush nofun, fun _ => hon nofun, nofun, hdead.trans (iff_of_false nofun nofun)⟩, hle, nofun,
        nofun, nofun⟩
  | queue _ => exact hs.moveTo (.inl rfl)
  | grant _ _ _ _ => exact hs.enteredInrush
  | trip cause sc oc _ => exact BranchRec.lawful.tripped (r := { s.br b with scLevel := sc, ocLevel := oc }) hs cause
  | complete _ => exact BranchRec.lawful.completed (r := { s.br b with pgLevel := true }) hs
  | sc _ _ | oc _ _ | pg _ _ _ => exact hs
  | profile f v hoff =>
    obtain ⟨htimers, -, hzero, -, -⟩ := hs
    refine ⟨htimers, (hzero hoff).symm ▸ Nat.zero_le _, hzero, fun h => ?_, fun h => ?_⟩
    · exact nomatch hoff.symm.trans h
    · exact nomatch hoff.symm.trans h
  | ocStart _ hon | pgOn _ _ hon _ =>
    obtain ⟨⟨hinrush, -, hsettle, hdead⟩, hattempts⟩ := hs
    exact ⟨⟨hinrush, fun hn => absurd hon hn, hsettle, hdead⟩, hattempts⟩
  | ocRelease =>
    obtain ⟨⟨hinrush, hon, hsettle, hdead⟩, hattempts⟩ := hs
    exact ⟨⟨hinrush, fun hn => ⟨rfl, (hon hn).2⟩, hsettle, hdead⟩, hattempts⟩
  | stopOc _ =>
    obtain ⟨⟨hinrush, hon, hsettle, hdead⟩, hattempts⟩ := hs
    exact ⟨⟨hinrush, fun hn => ⟨rfl, (hon hn).2⟩, hsettle, hdead⟩, hattempts⟩
  | stopPg _ =>
    obtain ⟨⟨hinrush, hon, hsettle, hdead⟩, hattempts⟩ := hs
    exact ⟨⟨hinrush, fun hn => ⟨(hon hn).1, rfl, (hon hn).2.2⟩, hsettle, hdead⟩, hattempts⟩
  | stopBlanking _ =>
    obtain ⟨⟨hinrush, hon, hsettle, hdead⟩, hattempts⟩ := hs
    exact ⟨⟨fun hn => ⟨rfl, (hinrush hn).2⟩, hon, hsettle, hdead⟩, hattempts⟩
  | stopRise =>
    obtain ⟨⟨hinrush, hon, hsettle, hdead⟩, hattempts⟩ := hs
    exact ⟨⟨fun hn => ⟨(hinrush hn).1, rfl⟩, hon, hsettle, hdead⟩, hattempts⟩
  | stopDead hdead' =>
    obtain ⟨⟨hinrush, hon, hsettle, -⟩, hattempts⟩ := hs
    exact ⟨⟨hinrush, hon, hsettle, iff_of_false nofun hdead'⟩, hattempts⟩
  | stopSettle hon' =>
    obtain ⟨⟨hinrush, hon, -, hdead⟩, hattempts⟩ := hs
    exact ⟨⟨hinrush, fun hn => ⟨(hon hn).1, (hon hn).2.1, rfl⟩, fun h => absurd h hon', hdead⟩, hattempts⟩
  | settled hon' =>
    obtain ⟨⟨hinrush, -, -, hdead⟩, -⟩ := hs
    refine ⟨⟨hinrush, fun hn => absurd hon' hn, fun _ => iff_of_false nofun (Nat.lt_irrefl 0), hdead⟩, Nat.zero_le _,
      fun _ => rfl, fun h => ?_, fun h => ?_⟩
    · exact nomatch hon'.symm.trans h
    · exact nomatch hon'.symm.trans h

/-- A tick end stops no timer and starts none. -/
theorem BranchRec.lawful.countDown (h : r.lawful) : r.countDown.lawful := by
  obtain ⟨⟨hinrush, hon, hsettle, hdead⟩, hattempts⟩ := h
  refine ⟨⟨fun hn => ?_, fun hn => ?_, fun h => ?_, ?_⟩, hattempts⟩
  · simp [BranchRec.countDown, hinrush hn]
  · simp [BranchRec.countDown, hon hn]
  · simpa [BranchRec.countDown] using hsettle h
  · simpa [BranchRec.countDown] using hdead

theorem BranchRec.default_lawful (sc oc pg : Bool) :
    BranchRec.lawful { BranchRec.default with scLevel := sc, ocLevel := oc, pgLevel := pg } :=
  ⟨⟨fun _ => ⟨rfl, rfl⟩, fun _ => ⟨rfl, rfl, rfl⟩, nofun, by simp [BranchRec.default]⟩, Nat.zero_le _, fun _ => rfl,
    nofun, nofun⟩

end BranchesLawful

/-- Settles O52: every move of a branch keeps its record lawful, and so do the tick end and RESET#. -/
theorem stepKeepsBranchesLawful : Obligations.StepKeepsBranchesLawful := by
  intro s t hs hstep b
  rcases step_branch hstep b with ⟨c, rest, hmove⟩ | h | ⟨sc, oc, pg, h⟩
  · exact hmove.lawful (hs b)
  · exact h ▸ BranchRec.lawful.countDown (hs b)
  · exact h ▸ BranchRec.default_lawful sc oc pg

section Detectors

variable {c : Instr} {s t : State} {b : Branch} {r r' : BranchRec}

/-! ### Trip detectors (R35 to R37, R41, R42, R47 to R50) -/

/-- Outside INRUSH and ON no input is armed. -/
theorem BranchRec.detectorLawful_of_unarmed (h : ¬(r.state = .inrush ∨ r.state = .on)) : r.detectorLawful :=
  ⟨fun hr => absurd hr h, fun hr => absurd (.inr hr) h,
    fun hr => absurd (.inl (BranchRec.blankingDone_iff.mp hr).1) h⟩

/-- A trip ends in DEAD or LOCKOUT (R56, R57). -/
theorem BranchRec.tripped_state (r : BranchRec) (cause : TripCause) :
    (r.tripped cause).state = .dead ∨ (r.tripped cause).state = .lockout := by
  unfold BranchRec.tripped
  split
  · exact .inl rfl
  · exact .inr rfl

theorem BranchRec.tripped_detectorLawful (r : BranchRec) (cause : TripCause) : (r.tripped cause).detectorLawful := by
  refine BranchRec.detectorLawful_of_unarmed ?_
  rcases r.tripped_state cause with h | h <;> simp [h]

/-- A branch in INRUSH with blanking running, and SCn# released. -/
theorem BranchRec.enteredInrush_detectorLawful (r : BranchRec) : r.enteredInrush.detectorLawful := by
  unfold BranchRec.enteredInrush
  split
  · exact BranchRec.tripped_detectorLawful _ _
  next hsc =>
    refine ⟨fun _ => (BranchRec.moveTo_scLevel r .inrush).trans (eq_false_of_ne_true hsc), nofun, fun h => ?_⟩
    exact nomatch (BranchRec.blankingDone_iff.mp h).2

/-- The entry to ON examines SCn# and OCn#, with no detector timer running and PGn asserted (R37, R47). -/
theorem BranchRec.examined_detectorLawful (hon : r.state = .on) (hoc : r.ocQualify = none) (hloss : r.pgLoss = none)
    (hpg : r.pgLevel = true) : r.examined.detectorLawful := by
  have hdone : ∀ d : BranchRec, d.state = .on → d.blankingDone = true → d.pgLevel = false := fun d hon h =>
    nomatch hon.symm.trans (BranchRec.blankingDone_iff.mp h).1
  have hpgLoss : r.pgLoss.isSome = true ↔ r.pgLevel = false := by simp [hloss, hpg]
  unfold BranchRec.examined
  split
  · exact BranchRec.tripped_detectorLawful _ _
  next hsc =>
    have hsc : r.scLevel = false := eq_false_of_ne_true hsc
    split
    next hocLevel =>
      unfold BranchRec.overcurrent
      split
      · exact BranchRec.tripped_detectorLawful _ _
      · exact ⟨fun _ => hsc, fun _ => ⟨iff_of_true rfl hocLevel, hpgLoss⟩, hdone _ hon⟩
    next hocLevel => exact ⟨fun _ => hsc, fun _ => ⟨iff_of_false (by simp [hoc]) hocLevel, hpgLoss⟩, hdone _ hon⟩

theorem BranchRec.completed_detectorLawful (hr : r.timersLawful) (hinrush : r.state = .inrush)
    (hpg : r.pgLevel = true) : r.completed.detectorLawful := by
  have hstop : r.ocQualify = none ∧ r.pgLoss = none ∧ r.settle = none := hr.2.1 (by simp [hinrush])
  obtain ⟨hoc, hloss, -⟩ := hstop
  unfold BranchRec.completed
  rw [BranchRec.moveTo_on_eq hinrush]
  exact BranchRec.examined_detectorLawful rfl hoc hloss hpg

/-- Every move of a lawful branch leaves each armed input acted on. -/
theorem BranchMove.detectorLawful (h : BranchMove c s b r) (hl : (s.br b).timersLawful)
    (hs : (s.br b).detectorLawful) : r.detectorLawful := by
  cases h with
  | keep => exact hs
  | shed h =>
    cases h with
    | keep => exact hs
    | shed _ | drop => exact BranchRec.detectorLawful_of_unarmed (by rintro (h | h) <;> cases h)
  | restart q _ => exact BranchRec.detectorLawful_of_unarmed (by cases q <;> rintro (h | h) <;> cases h)
  | queue _ => exact BranchRec.detectorLawful_of_unarmed (by rintro (h | h) <;> cases h)
  | profile f v _ | stopRise | stopDead _ | stopSettle _ | settled _ => exact hs
  | grant _ _ _ _ => exact BranchRec.enteredInrush_detectorLawful _
  | trip cause _ _ _ => exact BranchRec.tripped_detectorLawful _ cause
  | complete hinrush => exact BranchRec.completed_detectorLawful (r := { s.br b with pgLevel := true }) hl hinrush rfl
  | sc level hlevel =>
    obtain ⟨-, hon, hdone⟩ := hs
    refine ⟨fun harmed => eq_false_of_ne_true fun htrue => ?_, hon, hdone⟩
    obtain ⟨hninrush, hnon⟩ := hlevel htrue
    exact harmed.elim hninrush hnon
  | oc level hnon | stopOc hnon | stopPg hnon =>
    obtain ⟨hsc, -, hdone⟩ := hs
    exact ⟨hsc, fun hon => absurd hon hnon, hdone⟩
  | ocStart n hon' =>
    obtain ⟨hsc, hon, hdone⟩ := hs
    exact ⟨hsc, fun h => ⟨iff_of_true rfl rfl, (hon h).2⟩, hdone⟩
  | ocRelease =>
    obtain ⟨hsc, hon, hdone⟩ := hs
    exact ⟨hsc, fun h => ⟨iff_of_false nofun nofun, (hon h).2⟩, hdone⟩
  | pg level hnon hlevel =>
    obtain ⟨hsc, -, hdone⟩ := hs
    refine ⟨hsc, fun hon => absurd hon hnon, fun hd => eq_false_of_ne_true fun htrue => ?_⟩
    exact nomatch (hlevel htrue).symm.trans hd
  | pgOn level loss hon' hloss =>
    obtain ⟨hsc, hon, -⟩ := hs
    refine ⟨hsc, fun h => ⟨(hon h).1, hloss⟩, fun hd => ?_⟩
    exact nomatch hon'.symm.trans (BranchRec.blankingDone_iff.mp hd).1
  | stopBlanking hpg =>
    obtain ⟨hsc, hon, -⟩ := hs
    refine ⟨hsc, hon, fun hd => ?_⟩
    exact hpg.resolve_left (not_not.mpr (BranchRec.blankingDone_iff.mp hd).1)

/-- A tick end stops no timer and starts none. -/
theorem BranchRec.detectorLawful.countDown (h : r.detectorLawful) : r.countDown.detectorLawful := by
  obtain ⟨hsc, hon, hdone⟩ := h
  refine ⟨hsc, fun h => ?_, fun hd => hdone ?_⟩
  · simpa [BranchRec.countDown] using hon h
  · simpa [BranchRec.blankingDone_iff, BranchRec.countDown] using hd

end Detectors

/-- Settles O57. -/
theorem stepKeepsDetectorsLawful : Obligations.StepKeepsDetectorsLawful := by
  intro s t hl hs hstep b
  rcases step_branch hstep b with ⟨c, rest, hmove⟩ | h | ⟨sc, oc, pg, h⟩
  · exact hmove.detectorLawful (hl b).1 (hs b)
  · exact h ▸ BranchRec.detectorLawful.countDown (hs b)
  · exact h ▸ BranchRec.detectorLawful_of_unarmed (by rintro (h | h) <;> cases h)

section Estop

variable {c : Instr} {s t : State} {b : Branch} {r : BranchRec}

/-! ### ESTOP# (R111, R115) -/

/-- With ESTOP# asserted and queue and stack in agreement with the branches, no move brings an OFF or locked-out branch
anywhere else. -/
theorem BranchMove.estop (h : BranchMove c s b r) (hqueue : s.queueLawful) (hstack : s.stackLawful)
    (he : s.estop = true) (hs : (s.br b).state = .off ∨ (s.br b).state = .lockout) :
    r.state = .off ∨ r.state = .lockout := by
  have elsewhere : ∀ st, (s.br b).state = st → st ≠ .off → st ≠ .lockout → False := fun st h hoff hlock =>
    hs.elim (fun h' => hoff (h.symm.trans h')) (fun h' => hlock (h.symm.trans h'))
  cases h with
  | shed h =>
    cases h with
    | keep => exact hs
    | shed h => exact h.elim (fun h => (elsewhere _ h nofun nofun).elim) fun h => (elsewhere _ h nofun nofun).elim
    | drop => exact .inl rfl
  | restart _ he' => exact nomatch he.symm.trans he'
  | queue h =>
    obtain ⟨-, hmem, -⟩ := hstack
    rcases h with ⟨he', -⟩ | hdead | hb
    · exact nomatch he.symm.trans he'
    · exact (elsewhere _ hdead nofun nofun).elim
    · exact (elsewhere _ ((hmem b).mp hb) nofun nofun).elim
  | grant _ _ _ hhead =>
    obtain ⟨-, hmem, -⟩ := hqueue
    exact (elsewhere _ ((hmem b).mp (List.mem_of_mem_head? hhead)) nofun nofun).elim
  | trip cause _ _ h =>
    exact h.elim (fun h => (elsewhere _ h nofun nofun).elim) fun h => (elsewhere _ h nofun nofun).elim
  | complete h => exact (elsewhere _ h nofun nofun).elim
  | _ => exact hs

/-- Only the assertion sets the ESTOP level record. -/
theorem Edit.estop_of_estop (h : Edit c s t) (hc : c ≠ .estopAssertion) (ht : t.estop = true) : s.estop = true := by
  cases h with
  | sequence h => exact (congrArg State.estop h.frame :).symm.trans ht
  | estop h => exact absurd h hc
  | estopRelease => exact nomatch ht
  | _ => exact ht

/-- After a command the ESTOP level record is not newly set, or every branch is OFF or in LOCKOUT (R111, R121). -/
theorem exec_estop (h : exec c s = .next t) (ht : t.estop = true) :
    s.estop = true ∨ ∀ b, (t.br b).state = .off ∨ (t.br b).state = .lockout := by
  rcases exec_cases h with ⟨-, rfl⟩ | ⟨-, -, rfl⟩ | ⟨hr, -, -, hedits⟩ | ⟨-, -, rfl⟩
  · exact .inr fun b => .inl (by rw [State.br_releaseReset]; rfl)
  · exact .inl ht
  · by_cases hc : c = .estopAssertion
    · subst hc
      rw [exec_running hr] at h
      obtain rfl := Host.Outcome.next.inj h
      by_cases hp : s.pins.estop = true
      · rw [State.taken, if_pos hp] at ht
        exact .inl ht
      · refine .inr fun b => ?_
        have hbr : (s.taken .estopAssertion).br b = _ :=
          (congrArg (State.br · b) (if_neg hp)).trans
            (State.br_takeAllOff { s with pins.estop := true, estop := true } .pin b)
        rw [hbr]
        cases hst : (s.br b).state <;>
          simp [State.br, BranchState.active, BranchRec.toOff, BranchRec.moveTo] at hst ⊢ <;> simp [hst]
    · exact .inl ((hedits.keep (P := fun u => u.estop = true → s.estop = true)
        (fun u v _ he hu hv => hu (he.estop_of_estop hc hv)) hr id).2 ht)
  · exact .inl ht

theorem State.idle_estop (s : State) : s.idle.estop = s.estop := by
  have period : ∀ u : State, u.clockPeriod.estop = u.estop := fun u => by
    rw [State.clockPeriod_eq]
    split <;> rfl
  unfold State.idle State.whenClocked
  split
  · rfl
  · dsimp only
    split
    · split
      · rfl
      · exact period _
    · exact period _

end Estop

/-- Settles O55: no move under ESTOP# brings a branch out of OFF or LOCKOUT, and its assertion opens every other. -/
theorem stepKeepsEstopLawful : Obligations.StepKeepsEstopLawful := by
  intro s t hadm hs hstep ht b
  obtain ⟨hqueue, -, hstack, -⟩ := hadm
  rcases step_cases hstep with ⟨hp, rfl⟩ | ⟨c, rest, -, he⟩
  · have hs := hs ((State.idle_estop s).symm.trans ht) b
    rcases State.br_idle hp b with e | e <;> rw [e] <;> exact hs
  · rcases exec_estop he ht with hest | hoff
    · rcases exec_branch he b with hmove | ⟨sc, oc, pg, h⟩
      · exact hmove.estop hqueue hstack hest (hs hest b)
      · exact .inl (congrArg BranchRec.state h)
    · exact hoff b

/-! ### Only a grant asserts a switch enable (R21, R78) -/

/-- A move of a branch from outside INRUSH and ON into one of them is a grant taken with its condition. -/
theorem BranchMove.closes {c : Instr} {s : State} {b : Branch} {r : BranchRec} (h : BranchMove c s b r)
    (hs : ¬((s.br b).state = .inrush ∨ (s.br b).state = .on)) (hr : r.state = .inrush ∨ r.state = .on) :
    c = .grant ∧ s.clocked ∧ s.grantCondition = true ∧ s.arbiter.queue.head? = some b := by
  cases h with
  | grant hc hclk hcond hhead => exact ⟨hc, hclk, hcond, hhead⟩
  | shed h =>
    cases h with
    | keep => exact absurd hr hs
    | shed _ | drop => rcases hr with h | h <;> cases h
  | restart q _ => cases q <;> rcases hr with h | h <;> cases h
  | queue _ => rcases hr with h | h <;> cases h
  | trip _ _ _ h => exact absurd h hs
  | complete h => exact absurd (.inl h) hs
  | _ => exact absurd hr hs

/-- ONn is asserted with RESET# released in INRUSH and ON. -/
theorem State.onOut_eq_true_iff {s : State} {b : Branch} :
    s.onOut b = true ↔ s.running ∧ ((s.br b).state = .inrush ∨ (s.br b).state = .on) := by
  simp [State.onOut]

/-- Settles O41. -/
theorem onlyAGrantAssertsASwitchEnable : Obligations.OnlyAGrantAssertsASwitchEnable := by
  intro c s t b h hs ht
  obtain ⟨htr, ht⟩ := State.onOut_eq_true_iff.mp ht
  rcases exec_branch h b with hmove | ⟨sc, oc, pg, e⟩
  · refine hmove.closes (fun harmed => ?_) ht
    have hheld : s.pins.reset = true := eq_true_of_ne_false fun hr =>
      nomatch hs.symm.trans (State.onOut_eq_true_iff.mpr ⟨hr, harmed⟩)
    rcases exec_cases h with ⟨-, rfl⟩ | ⟨hr, -, -⟩ | ⟨hr, -, -, -⟩ | ⟨-, hc, rfl⟩
    · rw [State.br_releaseReset] at ht
      rcases ht with ht | ht <;> cases ht
    · exact nomatch hheld.symm.trans hr
    · exact nomatch hheld.symm.trans hr
    · exact nomatch htr.symm.trans (Pins.afterEvent_reset hheld hc)
  · rw [e] at ht
    rcases ht with ht | ht <;> cases ht

/-! ### Queue, slots, stack and load manager, law by law (R70, R74, R90, R94, R103)

Each law is kept by the change of its own list, count or fields, given what becomes of the branch states. -/

theorem SequencerChange.priority {s t : State} (h : SequencerChange s t) (b : Branch) :
    t.priority b = s.priority b := congrArg (fun p : Profile => p.priority.toNat) (h.profile b)

/-- Two predicates that agree everywhere but at one entry count alike but for that entry. -/
theorem countP_eq_of_forall_ne {α : Type} {l : List α} (hl : l.Nodup) {b : α} (hb : b ∈ l) {p q : α → Bool}
    (h : ∀ c, c ≠ b → p c = q c) : l.countP p + (q b).toNat = l.countP q + (p b).toNat := by
  induction l with
  | nil => cases hb
  | cons a l ih =>
    obtain ⟨ha, hl⟩ := List.nodup_cons.mp hl
    simp only [List.countP_cons, Bool.toNat] at ih ⊢
    by_cases hab : b = a
    · subst hab
      have hrest : l.countP p = l.countP q := List.countP_congr fun c hc => by rw [h c fun e => ha (e ▸ hc)]
      cases hp : p b <;> cases hq : q b <;> simp [hrest]
    · have := ih hl ((List.mem_cons.mp hb).resolve_left hab)
      rw [h a (Ne.symm hab)]
      omega

section Laws

variable {s t : State} {b v : Branch}

/-- With one branch's state changed, the number of branches in a state changes by that one. -/
theorem State.countIn_eq_of_forall_ne (h : ∀ c, c ≠ b → (t.br c).state = (s.br c).state) (st : BranchState) :
    t.countIn st + ((s.br b).state == st).toNat = s.countIn st + ((t.br b).state == st).toNat :=
  countP_eq_of_forall_ne (List.nodup_finRange 8) (mem_allBranches b) (p := fun c => (t.br c).state == st)
    (q := fun c => (s.br c).state == st) fun c hc => by rw [h c hc]

/-- With one branch's state changed, the branches in a state that it neither leaves nor enters stay the same. -/
theorem State.state_iff_of_forall_ne (h : ∀ c, c ≠ b → (t.br c).state = (s.br c).state) {st : BranchState}
    (hs : (s.br b).state ≠ st) (ht : (t.br b).state ≠ st) (c : Branch) : (t.br c).state = st ↔ (s.br c).state = st := by
  by_cases hc : c = b
  · subst hc
    exact iff_of_false ht hs
  · rw [h c hc]

/-! #### The close queue -/

/-- Entries leave the queue with their states. -/
theorem State.queueLawful.sublist (h : s.queueLawful) (hq : t.arbiter.queue.Sublist s.arbiter.queue)
    (hst : ∀ c, c ∈ t.arbiter.queue ↔ (t.br c).state = .queued)
    (hp : ∀ c ∈ s.arbiter.queue, t.priority c = s.priority c) : t.queueLawful := by
  obtain ⟨hnodup, -, hsorted⟩ := h
  refine ⟨hnodup.sublist hq, hst, (hsorted.sublist hq).imp_of_mem fun {a c} ha hc hle => ?_⟩
  rw [hp a (hq.subset ha), hp c (hq.subset hc)]
  exact hle

theorem State.queueLawful.congr (h : s.queueLawful) (hq : t.arbiter.queue = s.arbiter.queue)
    (hst : ∀ c, (t.br c).state = .queued ↔ (s.br c).state = .queued)
    (hp : ∀ c ∈ s.arbiter.queue, t.priority c = s.priority c) : t.queueLawful :=
  h.sublist (hq ▸ .refl _) (fun c => by rw [hq, hst c]; exact h.2.1 c) hp

/-- A branch joins the queue with its state. -/
theorem State.queueLawful.join (h : s.queueLawful) (hb : (s.br b).state ≠ .queued)
    (hq : t.arbiter.queue = insertByPriority s.priority b s.arbiter.queue)
    (hst : ∀ c, (t.br c).state = .queued ↔ c = b ∨ (s.br c).state = .queued)
    (hp : ∀ c, t.priority c = s.priority c) : t.queueLawful := by
  obtain ⟨hnodup, hmem, hsorted⟩ := h
  have hp : t.priority = s.priority := funext hp
  refine ⟨?_, fun c => ?_, ?_⟩
  · rw [hq]
    exact insertByPriority_nodup (fun hb' => hb ((hmem b).mp hb')) hnodup
  · rw [hq, mem_insertByPriority, hmem, hst]
  · rw [hq, hp]
    exact insertByPriority_pairwise b hsorted

/-- A branch leaves the queue from wherever it stands. -/
theorem State.queueLawful.leave (h : s.queueLawful) (hq : t.arbiter.queue = s.arbiter.queue.filter (· != b))
    (hst : ∀ c, (t.br c).state = .queued ↔ c ≠ b ∧ (s.br c).state = .queued)
    (hp : ∀ c, t.priority c = s.priority c) : t.queueLawful := by
  refine h.sublist (hq ▸ List.filter_sublist) (fun c => ?_) fun c _ => hp c
  rw [hq, hst, List.mem_filter, h.2.1 c]
  simp [and_comm]

/-! #### The inrush count -/

theorem State.slotsLawful.congr (h : s.slotsLawful) (hcount : t.arbiter.inrushCount = s.arbiter.inrushCount)
    (hslots : t.arbiter.slots = s.arbiter.slots)
    (hst : ∀ c, (t.br c).state = .inrush ↔ (s.br c).state = .inrush) : t.slotsLawful := by
  obtain ⟨heq, hle⟩ := h
  refine ⟨?_, by rw [hcount, hslots]; exact hle⟩
  rw [hcount, heq]
  exact List.countP_congr fun c _ => by simpa using (hst c).symm

/-- A branch enters INRUSH with a free slot. -/
theorem State.slotsLawful.enter (h : s.slotsLawful) (hfree : s.arbiter.inrushCount < s.arbiter.slots.toNat)
    (hcount : t.arbiter.inrushCount = s.arbiter.inrushCount + 1) (hslots : t.arbiter.slots = s.arbiter.slots)
    (hother : ∀ c, c ≠ b → (t.br c).state = (s.br c).state) (hb : (s.br b).state ≠ .inrush)
    (hb' : (t.br b).state = .inrush) : t.slotsLawful := by
  have hn := State.countIn_eq_of_forall_ne hother .inrush
  rw [beq_false_of_ne hb, hb'] at hn
  simp only [Bool.toNat_false, beq_self_eq_true, Bool.toNat_true] at hn
  refine ⟨?_, ?_⟩
  · rw [hcount, h.1]
    omega
  · rw [hcount, hslots]
    exact hfree

/-- A branch leaves INRUSH and its slot. -/
theorem State.slotsLawful.leave (h : s.slotsLawful) (hcount : t.arbiter.inrushCount = s.arbiter.inrushCount - 1)
    (hslots : t.arbiter.slots = s.arbiter.slots) (hother : ∀ c, c ≠ b → (t.br c).state = (s.br c).state)
    (hb : (s.br b).state = .inrush) (hb' : (t.br b).state ≠ .inrush) : t.slotsLawful := by
  have hn := State.countIn_eq_of_forall_ne hother .inrush
  rw [beq_false_of_ne hb', hb] at hn
  simp only [Bool.toNat_false, beq_self_eq_true, Bool.toNat_true] at hn
  refine ⟨?_, ?_⟩
  · rw [hcount, h.1]
    omega
  · rw [hcount, hslots]
    exact (Nat.sub_le _ 1).trans h.2

/-- With no branch in INRUSH the count is 0. -/
theorem State.countIn_eq_zero {st : BranchState} (h : ∀ b, (s.br b).state ≠ st) : s.countIn st = 0 :=
  List.countP_eq_zero.mpr fun b _ => by simpa using h b

/-! #### The shed stack -/

/-- Entries leave the stack with their states. -/
theorem State.stackLawful.sublist (h : s.stackLawful) (hstack : t.load.stack.Sublist s.load.stack)
    (hst : ∀ c, c ∈ t.load.stack ↔ (t.br c).state = .shed)
    (hp : ∀ c ∈ s.load.stack, t.priority c = s.priority c) : t.stackLawful := by
  obtain ⟨hnodup, -, hlen, hprio⟩ := h
  refine ⟨hnodup.sublist hstack, hst, hstack.length_le.trans hlen, fun c hc => ?_⟩
  rw [hp c (hstack.subset hc)]
  exact hprio c (hstack.subset hc)

theorem State.stackLawful.congr (h : s.stackLawful) (hstack : t.load.stack = s.load.stack)
    (hst : ∀ c, (t.br c).state = .shed ↔ (s.br c).state = .shed)
    (hp : ∀ c ∈ s.load.stack, t.priority c = s.priority c) : t.stackLawful :=
  h.sublist (hstack ▸ .refl _) (fun c => by rw [hstack, hst c]; exact h.2.1 c) hp

/-- A branch of PRIORITY 1 or more is pushed, where what stays on the stack leaves room for it. -/
theorem State.stackLawful.push (h : s.stackLawful) {rest : List Branch} (hstack : t.load.stack = v :: rest)
    (hrest : rest.Sublist s.load.stack) (hroom : rest.length < Config.stackCapacity) (hv : (s.br v).state ≠ .shed)
    (hprio : 1 ≤ s.priority v) (hst : ∀ c, (t.br c).state = .shed ↔ c = v ∨ c ∈ rest)
    (hp : ∀ c, t.priority c = s.priority c) : t.stackLawful := by
  obtain ⟨hnodup, hmem, -, hprios⟩ := h
  refine ⟨?_, fun c => ?_, ?_, fun c hc => ?_⟩
  · rw [hstack]
    exact List.nodup_cons.mpr ⟨fun hv' => hv ((hmem v).mp (hrest.subset hv')), hnodup.sublist hrest⟩
  · rw [hstack, hst, List.mem_cons]
  · rw [hstack]
    exact hroom
  · rw [hp]
    rcases List.mem_cons.mp (hstack ▸ hc) with rfl | hc
    · exact hprio
    · exact hprios c (hrest.subset hc)

/-! #### The load manager -/

theorem State.loadLawful.congr (h : s.loadLawful) (hload : t.load = s.load)
    (hflight : ∀ c, s.load.inFlight = some c → (t.br c).state = .queued ∨ (t.br c).state = .inrush)
    (hp : ∀ c, s.load.inFlight = some c → t.priority c = s.priority c) : t.loadLawful := by
  obtain ⟨hf, hrest⟩ := h
  unfold State.loadLawful
  rw [hload]
  refine ⟨fun c hc => ?_, hrest⟩
  obtain ⟨hmode, -, hprio, hroom⟩ := hf c hc
  exact ⟨hmode, hflight c hc, (hp c hc).symm ▸ hprio, hroom⟩

/-- Entries other than the flight leave the stack. -/
theorem State.loadLawful.unstack (h : s.loadLawful) {rest : List Branch} (hrest : rest.Sublist s.load.stack)
    (hload : t.load = { s.load with stack := rest })
    (hflight : ∀ c, s.load.inFlight = some c → (t.br c).state = (s.br c).state)
    (hp : ∀ c, t.priority c = s.priority c) : t.loadLawful := by
  obtain ⟨hf, hshed, hhold, hspace, hcalm, hlaws⟩ := h
  unfold State.loadLawful
  rw [hload]
  refine ⟨fun c hc => ?_, hshed, hhold, hspace, fun hm => ?_, hlaws⟩
  · obtain ⟨hmode, hst, hprio, hroom⟩ := hf c hc
    rw [hflight c hc, hp]
    exact ⟨hmode, hst, hprio, hrest.length_le.trans_lt hroom⟩
  · exact List.sublist_nil.mp (hcalm hm ▸ hrest)

theorem LoadManager.afterFlight_stack (l : LoadManager) (b : Branch) : (l.afterFlight b).stack = l.stack := by
  unfold LoadManager.afterFlight
  split
  · split <;> rfl
  · rfl

/-- A branch leaves QUEUED or INRUSH, and its flight ends if it is the branch in flight (R104). -/
theorem State.loadLawful.endFlight (h : s.loadLawful) (hload : t.load = s.load.afterFlight b)
    (hother : ∀ c, c ≠ b → (t.br c).state = (s.br c).state) (hp : ∀ c, t.priority c = s.priority c) :
    t.loadLawful := by
  by_cases hfb : s.load.inFlight = some b
  · obtain ⟨hf, hshed, hhold, hspace, hcalm, hex, hqual, hstress⟩ := h
    obtain ⟨hmode, -⟩ := hf b hfb
    have hshed0 : s.load.shedTimer.isSome ≠ true := fun h => by simp [hshed.mp h] at hmode
    have hhold0 : s.load.holdTimer.isSome ≠ true := fun h => by simp [hhold.mp h] at hmode
    have hspace0 : s.load.spacingTimer.isSome ≠ true := fun h => by simp [(hspace.mp h).2] at hfb
    have hex0 : s.load.exhausted ≠ true := fun h => by simp [hex h] at hmode
    unfold State.loadLawful
    rw [hload, LoadManager.afterFlight, if_pos hfb]
    by_cases hempty : s.load.stack = []
    · rw [if_pos hempty]
      exact ⟨nofun, iff_of_false hshed0 nofun, iff_of_false hhold0 nofun, iff_of_false hspace0 (fun h => nomatch h.1),
        fun _ => hempty, fun h => absurd h hex0, nofun, fun h => h.elim nofun nofun⟩
    · rw [if_neg hempty]
      exact ⟨nofun, hshed, hhold, iff_of_true rfl ⟨hmode, rfl⟩, hcalm, hex, hqual, hstress⟩
  · have hsame : s.load.afterFlight b = s.load := by rw [LoadManager.afterFlight, if_neg hfb]
    refine h.congr (hload.trans hsame) (fun c hc => ?_) fun c _ => hp c
    rw [hother c fun e => hfb (e ▸ hc)]
    exact (h.1 c hc).2.1

/-! ### The four laws together -/

/-- A change that keeps every branch's state, and the PRIORITY of every branch that is not OFF. -/
theorem State.admissionLawful.congr (h : s.admissionLawful) (hst : ∀ c, (t.br c).state = (s.br c).state)
    (hp : ∀ c, (s.br c).state ≠ .off → t.priority c = s.priority c) (harb : t.arbiter = s.arbiter)
    (hload : t.load = s.load) : t.admissionLawful := by
  obtain ⟨hqueue, hslots, hstack, hl⟩ := h
  refine ⟨hqueue.congr (by rw [harb]) (fun c => by rw [hst]) fun c hc => hp c ?_,
    hslots.congr (by rw [harb]) (by rw [harb]) (fun c => by rw [hst]),
    hstack.congr (by rw [hload]) (fun c => by rw [hst]) fun c hc => hp c ?_,
    hl.congr hload (fun c hc => by rw [hst]; exact (hl.1 c hc).2.1) fun c hc => hp c ?_⟩
  · simp [(hqueue.2.1 c).mp hc]
  · simp [(hstack.2.1 c).mp hc]
  · rcases (hl.1 c hc).2.1 with h | h <;> simp [h]

/-- The same for a change of one record. -/
theorem State.admissionLawful.updBr (h : s.admissionLawful) {f : BranchRec → BranchRec}
    (hst : (f (s.br b)).state = (s.br b).state)
    (hp : (s.br b).state ≠ .off → (f (s.br b)).profile.priority = (s.br b).profile.priority) :
    (s.updBr b f).admissionLawful := by
  refine h.congr (fun c => ?_) (fun c hc => ?_) rfl rfl
  · rw [State.br_updBr]
    split
    next hb => rw [hb, hst]
    next => rfl
  · unfold State.priority
    rw [State.br_updBr]
    split
    next hb =>
      subst hb
      rw [hp hc]
    next => rfl

/-- The branch is nowhere: in no queue, no slot, not on the stack, not in flight. -/
def State.Idle (s : State) (b : Branch) : Prop :=
  (s.br b).state ≠ .queued ∧ (s.br b).state ≠ .inrush ∧ (s.br b).state ≠ .shed

/-- An idle branch is not in flight. -/
theorem State.Idle.not_inFlight (hb : s.Idle b) (h : s.loadLawful) {c : Branch} (hc : s.load.inFlight = some c) :
    c ≠ b := by
  rintro rfl
  exact (h.1 c hc).2.1.elim hb.1 hb.2.1

/-- An idle branch that stays idle. -/
theorem State.admissionLawful.idle (h : s.admissionLawful) (hb : s.Idle b) (hb' : t.Idle b)
    (hother : ∀ c, c ≠ b → (t.br c).state = (s.br c).state) (hp : ∀ c, t.priority c = s.priority c)
    (harb : t.arbiter = s.arbiter) (hload : t.load = s.load) : t.admissionLawful := by
  obtain ⟨hqueue, hslots, hstack, hl⟩ := h
  have same {st : BranchState} := State.state_iff_of_forall_ne hother (st := st)
  refine ⟨hqueue.congr (by rw [harb]) (same hb.1 hb'.1) fun c _ => hp c,
    hslots.congr (by rw [harb]) (by rw [harb]) (same hb.2.1 hb'.2.1),
    hstack.congr (by rw [hload]) (same hb.2.2 hb'.2.2) fun c _ => hp c,
    hl.congr hload (fun c hc => ?_) fun c _ => hp c⟩
  rw [hother c (hb.not_inFlight hl hc)]
  exact (hl.1 c hc).2.1

/-- A branch leaves INRUSH, its slot and its flight, and becomes idle (R75, R104). -/
theorem State.admissionLawful.leaveInrush (h : s.admissionLawful) (hb : (s.br b).state = .inrush) (hb' : t.Idle b)
    (hother : ∀ c, c ≠ b → (t.br c).state = (s.br c).state) (hp : ∀ c, t.priority c = s.priority c)
    (harb : t.arbiter = { s.arbiter with inrushCount := s.arbiter.inrushCount - 1 })
    (hload : t.load = s.load.afterFlight b) : t.admissionLawful := by
  obtain ⟨hqueue, hslots, hstack, hl⟩ := h
  have same {st : BranchState} (hst : BranchState.inrush ≠ st) :=
    State.state_iff_of_forall_ne hother (st := st) (hb ▸ hst)
  have hstk : t.load.stack = s.load.stack := by rw [hload, LoadManager.afterFlight_stack]
  exact ⟨hqueue.congr (by rw [harb]) (same nofun hb'.1) fun c _ => hp c,
    hslots.leave (by rw [harb]) (by rw [harb]) hother hb hb'.2.1,
    hstack.congr hstk (same nofun hb'.2.2) fun c _ => hp c, hl.endFlight hload hother hp⟩

/-- A branch leaves QUEUED, the queue and its flight, and becomes idle (R73, R104). -/
theorem State.admissionLawful.leaveQueue (h : s.admissionLawful) (hb : (s.br b).state = .queued) (hb' : t.Idle b)
    (hother : ∀ c, c ≠ b → (t.br c).state = (s.br c).state) (hp : ∀ c, t.priority c = s.priority c)
    (harb : t.arbiter = { s.arbiter with queue := s.arbiter.queue.filter (· != b) })
    (hload : t.load = s.load.afterFlight b) : t.admissionLawful := by
  obtain ⟨hqueue, hslots, hstack, hl⟩ := h
  have same {st : BranchState} (hst : BranchState.queued ≠ st) :=
    State.state_iff_of_forall_ne hother (st := st) (hb ▸ hst)
  have hstk : t.load.stack = s.load.stack := by rw [hload, LoadManager.afterFlight_stack]
  refine ⟨hqueue.leave (b := b) (by rw [harb]) (fun c => ?_) hp,
    hslots.congr (by rw [harb]) (by rw [harb]) (same nofun hb'.2.1),
    hstack.congr hstk (same nofun hb'.2.2) fun c _ => hp c, hl.endFlight hload hother hp⟩
  by_cases hc : c = b
  · subst hc
    exact iff_of_false hb'.1 fun h => h.1 rfl
  · rw [hother c hc]
    exact ⟨fun h => ⟨hc, h⟩, fun h => h.2⟩

/-- A branch leaves SHED and the stack, and becomes idle (R29). -/
theorem State.admissionLawful.leaveStack (h : s.admissionLawful) (hb : (s.br b).state = .shed) (hb' : t.Idle b)
    (hother : ∀ c, c ≠ b → (t.br c).state = (s.br c).state) (hp : ∀ c, t.priority c = s.priority c)
    (harb : t.arbiter = s.arbiter)
    (hload : t.load = { s.load with stack := s.load.stack.filter (· != b) }) : t.admissionLawful := by
  obtain ⟨hqueue, hslots, hstack, hl⟩ := h
  have same {st : BranchState} (hst : BranchState.shed ≠ st) :=
    State.state_iff_of_forall_ne hother (st := st) (hb ▸ hst)
  refine ⟨hqueue.congr (by rw [harb]) (same nofun hb'.1) fun c _ => hp c,
    hslots.congr (by rw [harb]) (by rw [harb]) (same nofun hb'.2.1),
    hstack.sublist (by rw [hload]; exact List.filter_sublist) (fun c => ?_) fun c _ => hp c,
    hl.unstack List.filter_sublist hload (fun c hc => hother c ?_) hp⟩
  · rw [hload]
    show c ∈ s.load.stack.filter (· != b) ↔ _
    rw [List.mem_filter, hstack.2.1 c]
    by_cases hc : c = b
    · subst hc
      exact iff_of_false (by simp) hb'.2.2
    · rw [hother c hc]
      simp [hc]
  · rintro rfl
    rcases (hl.1 c hc).2.1 with h | h <;> exact nomatch hb.symm.trans h

/-- An idle branch joins the queue (R70, R71). -/
theorem State.admissionLawful.joinQueue (h : s.admissionLawful) (hb : s.Idle b) :
    (s.joinQueue b).admissionLawful := by
  obtain ⟨hqueue, hslots, hstack, hl⟩ := h
  have hbr : ∀ c, ((s.joinQueue b).br c).state = if c = b then .queued else (s.br c).state := fun c => by
    rw [State.br_joinQueue]
    split <;> rfl
  have same {st : BranchState} (hst : .queued ≠ st) (hs : (s.br b).state ≠ st) :=
    State.state_iff_of_forall_ne (t := s.joinQueue b) (fun c hc => by rw [hbr, if_neg hc]) hs
      (by rw [hbr, if_pos rfl]; exact hst)
  have hp := (SequencerChange.joinQueue s b).priority
  refine ⟨hqueue.join hb.1 rfl (fun c => ?_) hp, hslots.congr rfl rfl (same nofun hb.2.1),
    hstack.congr rfl (same nofun hb.2.2) fun c _ => hp c, hl.congr rfl (fun c hc => ?_) fun c _ => hp c⟩
  · rw [hbr]
    split
    next hc => exact iff_of_true rfl (.inl hc)
    next hc => simp [hc]
  · rw [hbr, if_neg (hb.not_inFlight hl hc)]
    exact (hl.1 c hc).2.1

/-- With every branch idle, the queue and the stack are empty, the count is 0, and the load manager is CALM. -/
theorem State.admissionLawful_of_idle (h : ∀ b, s.Idle b) (hqueue : s.arbiter.queue = [])
    (hcount : s.arbiter.inrushCount = 0) (hload : s.load = s.load.calmed) : s.admissionLawful := by
  refine ⟨?_, ⟨?_, ?_⟩, ?_, ?_⟩
  · rw [State.queueLawful, hqueue]
    exact ⟨.nil, fun b => iff_of_false (by simp) (h b).1, .nil⟩
  · rw [hcount, State.countIn_eq_zero fun b => (h b).2.1]
  · rw [hcount]
    exact Nat.zero_le _
  · rw [State.stackLawful, hload]
    exact ⟨.nil, fun b => iff_of_false (by simp [LoadManager.calmed]) (h b).2.2, Nat.zero_le _, nofun⟩
  · rw [State.loadLawful, hload]
    exact ⟨nofun, iff_of_false nofun nofun, iff_of_false nofun nofun, iff_of_false nofun (fun h => nomatch h.1),
      fun _ => rfl, nofun, nofun, fun h => h.elim nofun nofun⟩

end Laws

section Operations

variable {s u : State} {b v n : Branch}

/-! ### What each operation does to queue, slots, stack and load manager -/

theorem State.takeTrip_arbiter (s : State) (b : Branch) (cause : TripCause) (ph : Phase) :
    (s.takeTrip b cause ph).arbiter =
      if ph = .inrush then { s.arbiter with inrushCount := s.arbiter.inrushCount - 1 } else s.arbiter := by
  cases ph <;> simp [State.takeTrip, apply_ite State.arbiter, State.endFlightOf_eq]

theorem State.takeTrip_load (s : State) (b : Branch) (cause : TripCause) (ph : Phase) :
    (s.takeTrip b cause ph).load = s.load.afterFlight b := by
  cases ph <;> simp [State.takeTrip, apply_ite State.load, State.endFlightOf_eq]

/-- A branch with one of the states of an idle branch. -/
theorem State.idle_of_state {st : BranchState} (h : (s.br b).state = st)
    (hst : st ≠ .queued ∧ st ≠ .inrush ∧ st ≠ .shed) :
    s.Idle b := by
  subst h
  exact hst

theorem State.takeTrip_idle (s : State) (b : Branch) (cause : TripCause) (ph : Phase) :
    (s.takeTrip b cause ph).Idle b := by
  have hbr : (s.takeTrip b cause ph).br b = (s.br b).tripped cause := by rw [State.br_takeTrip, if_pos rfl]
  rcases BranchRec.tripped_state (s.br b) cause with h | h <;>
    exact State.idle_of_state ((congrArg BranchRec.state hbr).trans h) ⟨nofun, nofun, nofun⟩

theorem State.takeTrip_other (s : State) (cause : TripCause) (ph : Phase) (c : Branch) (hc : c ≠ b) :
    ((s.takeTrip b cause ph).br c).state = (s.br c).state := by
  rw [State.br_takeTrip, if_neg hc]

/-- The flight of an idle branch is no flight to end. -/
theorem State.Idle.afterFlight (hb : s.Idle b) (h : s.loadLawful) : s.load.afterFlight b = s.load :=
  if_neg fun hf => hb.not_inFlight h hf rfl

theorem State.admissionLawful.tripInrush (h : s.admissionLawful) (hb : (s.br b).state = .inrush) (cause : TripCause) :
    (s.takeTrip b cause .inrush).admissionLawful :=
  h.leaveInrush hb (s.takeTrip_idle b cause .inrush) (s.takeTrip_other cause .inrush)
    (s.takeTrip_change b cause .inrush).priority ((s.takeTrip_arbiter b cause .inrush).trans (if_pos rfl))
    (s.takeTrip_load b cause .inrush)

theorem State.admissionLawful.tripOn (h : s.admissionLawful) (hb : (s.br b).state = .on) (cause : TripCause) :
    (s.takeTrip b cause .on).admissionLawful := by
  have hidle : s.Idle b := State.idle_of_state hb ⟨nofun, nofun, nofun⟩
  exact h.idle hidle (s.takeTrip_idle b cause .on) (s.takeTrip_other cause .on)
    (s.takeTrip_change b cause .on).priority ((s.takeTrip_arbiter b cause .on).trans (if_neg nofun))
    ((s.takeTrip_load b cause .on).trans (hidle.afterFlight h.2.2.2))

/-- A change of timers and levels alone. -/
theorem State.admissionLawful.retimed (h : s.admissionLawful) {f : BranchRec → BranchRec}
    (hst : ∀ r, (f r).state = r.state) (hp : ∀ r, (f r).profile = r.profile) : (s.updBr n f).admissionLawful :=
  h.updBr (hst _) fun _ => congrArg Profile.priority (hp _)

theorem State.admissionLawful.overcurrent (h : s.admissionLawful) (hb : (s.br b).state = .on) :
    (s.overcurrent b).admissionLawful := by
  unfold State.overcurrent
  split
  · exact h.tripOn hb .oc
  · exact h.retimed (fun _ => rfl) fun _ => rfl

theorem State.admissionLawful.examineAtOn (h : s.admissionLawful) (hb : (s.br b).state = .on) :
    (s.examineAtOn b).admissionLawful := by
  unfold State.examineAtOn
  split
  · exact h.tripOn hb .sc
  · split
    · exact h.overcurrent hb
    · exact h

/-- The completion frees the slot and ends the flight, and then examines the inputs (R45). -/
theorem State.admissionLawful.complete (h : s.admissionLawful) (hb : (s.br b).state = .inrush) :
    (s.complete b).admissionLawful := by
  have hon : ∀ r : BranchRec, (r.moveTo .on).startSettle.state = .on := fun r => by
    unfold BranchRec.startSettle
    split <;> rfl
  have hbr : ∀ c, (((s.updBr b fun r => (r.moveTo .on).startSettle).releaseSlot.endFlightOf b).br c).state =
      if c = b then .on else (s.br c).state := fun c => by
    rw [State.br_endFlightOf, State.br_releaseSlot, State.br_updBr]
    split
    · exact hon _
    · rfl
  have hstate := (hbr b).trans (if_pos rfl)
  refine State.admissionLawful.examineAtOn (h.leaveInrush hb (State.idle_of_state hstate ⟨nofun, nofun, nofun⟩)
    (fun c hc => (hbr c).trans (if_neg hc)) ?_ ?_ ?_) hstate
  · have hinputs : ∀ r : BranchRec, (r.moveTo .on).startSettle.inputs = r.inputs := fun r => by
      rw [BranchRec.startSettle_inputs, BranchRec.moveTo_inputs]
    exact (((SequencerChange.updBr s hinputs).trans (.releaseSlot _)).trans (.endFlightOf _ b)).priority
  · rw [State.endFlightOf_eq]
    rfl
  · rw [State.endFlightOf_eq]
    rfl

/-- The head of the queue enters INRUSH with a free slot (R78). -/
theorem State.admissionLawful.granted (h : s.admissionLawful) {rest : List Branch} (hq : s.arbiter.queue = b :: rest)
    (hfree : s.arbiter.inrushCount < s.arbiter.slots.toNat) {r : BranchRec} (hr : r.state = .inrush)
    (hprofile : r.profile = (s.br b).profile) :
    State.admissionLawful
      { s with
        branches := s.branches.set b r
        arbiter := { s.arbiter with queue := rest, inrushCount := s.arbiter.inrushCount + 1 } } := by
  obtain ⟨hqueue, hslots, hstack, hl⟩ := h
  generalize ht : ({ s with
        branches := s.branches.set b r
        arbiter := { s.arbiter with queue := rest, inrushCount := s.arbiter.inrushCount + 1 } } : State) = t
  have hbr : ∀ c, t.br c = if c = b then r else s.br c := State.br_set s b r t (by rw [← ht])
  have harb : t.arbiter = { s.arbiter with queue := rest, inrushCount := s.arbiter.inrushCount + 1 } := by rw [← ht]
  have hload : t.load = s.load := by rw [← ht]
  have hb : (s.br b).state = .queued := (hqueue.2.1 b).mp (hq ▸ .head _)
  have hb' : (t.br b).state = .inrush := by rw [hbr, if_pos rfl, hr]
  have hother : ∀ c, c ≠ b → (t.br c).state = (s.br c).state := fun c hc => by rw [hbr, if_neg hc]
  have hp : ∀ c, t.priority c = s.priority c := fun c => by
    unfold State.priority
    rw [hbr]
    split
    next hc => rw [hc, hprofile]
    next => rfl
  have hnotin : b ∉ rest := (List.nodup_cons.mp (hq ▸ hqueue.1)).1
  refine ⟨hqueue.leave (b := b) ?_ (fun c => ?_) hp,
    hslots.enter hfree (by rw [harb]) (by rw [harb]) hother (by rw [hb]; exact nofun) hb',
    hstack.congr (by rw [hload])
      (State.state_iff_of_forall_ne hother (by rw [hb]; exact nofun) (by rw [hb']; exact nofun))
      fun c _ => hp c,
    hl.congr hload (fun c hc => ?_) fun c _ => hp c⟩
  · rw [harb, hq]
    exact (filter_ne_split (front := []) (by simp) hnotin).symm
  · by_cases hc : c = b
    · subst hc
      exact iff_of_false (by rw [hb']; exact nofun) fun h => h.1 rfl
    · rw [hother c hc]
      exact ⟨fun h => ⟨hc, h⟩, fun h => h.2⟩
  · by_cases hcb : c = b
    · exact .inr (hcb ▸ hb')
    · rw [hother c hcb]
      exact (hl.1 c hc).2.1

/-- A grant keeps the laws: the head takes its slot, and with SCn# asserted gives it back at once (R36, R78). -/
theorem State.admissionLawful.takeGrant (h : s.admissionLawful) (hg : s.grantCondition = true) :
    s.takeGrant.admissionLawful := by
  have hfree : s.arbiter.inrushCount < s.arbiter.slots.toNat := by
    simp only [State.grantCondition, Bool.and_eq_true, decide_eq_true_eq] at hg
    exact hg.1.1.2
  unfold State.takeGrant
  split
  · exact h
  next b rest hq =>
    have entered : (State.enterInrush
        { s with arbiter := { s.arbiter with queue := rest, inrushCount := s.arbiter.inrushCount + 1 } }
        b).admissionLawful := by
      unfold State.enterInrush
      dsimp only
      split
      · refine State.admissionLawful.tripInrush
          (h.granted hq hfree (r := (s.br b).moveTo .inrush) rfl (BranchRec.moveTo_profile _ _)) ?_ .sc
        exact congrArg BranchRec.state ((State.br_setBr s b _ b).trans (if_pos rfl))
      · exact h.granted hq hfree rfl (BranchRec.moveTo_profile (s.br b) .inrush)
    dsimp only
    split <;> exact entered

/-! ### Shedding, recall, restore -/

theorem State.exhaust_lawful (h : s.admissionLawful) (hm : s.load.mode = .shedding) : s.exhaust.admissionLawful := by
  unfold State.exhaust
  split
  · exact h
  · obtain ⟨hqueue, hslots, hstack, hf, hshed, hhold, hspace, hcalm, -, hlaws⟩ := h
    exact ⟨hqueue, hslots, hstack, hf, hshed, hhold, hspace, hcalm, fun _ => hm, hlaws⟩

/-- What stays on the stack when a victim is pushed (R99). -/
def State.shedRest (s : State) : List Branch :=
  if Config.stackCapacity ≤ s.load.stack.length then s.load.stack.dropLast else s.load.stack

theorem State.shedVictim_load (s : State) (v : Branch) :
    (s.shedVictim v).load = { s.load with stack := v :: s.shedRest } := by
  unfold State.shedVictim State.shedRest
  by_cases hfull : Config.stackCapacity ≤ s.load.stack.length
  · cases hlast : s.load.stack.getLast? <;> simp [hfull, hlast]
  · simp [hfull]

theorem State.shedVictim_arbiter (s : State) (v : Branch) : (s.shedVictim v).arbiter = s.arbiter := by
  unfold State.shedVictim
  by_cases hfull : Config.stackCapacity ≤ s.load.stack.length
  · cases hlast : s.load.stack.getLast? <;> simp [hfull, hlast]
  · simp [hfull]

/-- The victim is in SHED, the bottom of a full stack in OFF, and no other branch changes its state. -/
theorem State.shedVictim_state (s : State) (v c : Branch) :
    ((s.shedVictim v).br c).state =
      if Config.stackCapacity ≤ s.load.stack.length ∧ s.load.stack.getLast? = some c then .off
      else if c = v then .shed else (s.br c).state := by
  rw [State.br_shedVictim]
  split
  · rfl
  · split <;> rfl

/-- A list without its last entry, which occurs once. -/
theorem mem_dropLast_iff {l : List Branch} (h : l.Nodup) {c : Branch} :
    c ∈ l.dropLast ↔ c ∈ l ∧ l.getLast? ≠ some c := by
  induction l using List.reverseRecOn with
  | nil => simp
  | append_singleton l d _ =>
    have hd : d ∉ l := fun hd => (List.nodup_append.mp h).2.2 d hd d (by simp) rfl
    simp only [List.dropLast_concat, List.mem_append, List.mem_singleton, List.getLast?_concat, ne_eq,
      Option.some.injEq]
    refine ⟨fun hc => ⟨.inl hc, fun e => hd (e ▸ hc)⟩, fun ⟨hc, hne⟩ => hc.resolve_right fun e => hne e.symm⟩

theorem State.shedRest_sublist (s : State) : s.shedRest.Sublist s.load.stack := by
  unfold State.shedRest
  split
  · exact List.dropLast_sublist _
  · exact .refl _

theorem State.stackLawful.shedRest_length (h : s.stackLawful) : s.shedRest.length < Config.stackCapacity := by
  obtain ⟨-, -, hlen, -⟩ := h
  unfold State.shedRest
  split
  · rw [List.length_dropLast]
    have : Config.stackCapacity = 4 := rfl
    omega
  next hroom => exact Nat.lt_of_not_le hroom

/-- After a shed step the branches in SHED are the victim and what stays on the stack. -/
theorem State.stackLawful.shedVictim_state_iff (h : s.stackLawful) (hv : (s.br v).state = .on) (c : Branch) :
    ((s.shedVictim v).br c).state = .shed ↔ c = v ∨ c ∈ s.shedRest := by
  obtain ⟨hnodup, hmem, -, -⟩ := h
  have hvs : v ∉ s.load.stack := fun h => nomatch hv.symm.trans ((hmem v).mp h)
  rw [State.shedVictim_state, State.shedRest]
  by_cases hfull : Config.stackCapacity ≤ s.load.stack.length
  · rw [if_pos hfull, mem_dropLast_iff hnodup]
    by_cases hc : s.load.stack.getLast? = some c
    · have hcv : c ≠ v := fun e => hvs (e ▸ List.mem_of_getLast? hc)
      simp [hfull, hc, hcv]
    · simp only [hc, and_false, if_false, ne_eq, not_false_eq_true, and_true, hmem]
      by_cases hcv : c = v <;> simp [hcv]
  · by_cases hcv : c = v <;> simp [hfull, hcv, hmem]

/-- A shed step takes no branch to or from a state but ON, SHED and OFF. -/
theorem State.stackLawful.shedVictim_state_other (h : s.stackLawful) (hv : (s.br v).state = .on) {st : BranchState}
    (hst : .off ≠ st ∧ .shed ≠ st ∧ .on ≠ st) (c : Branch) :
    ((s.shedVictim v).br c).state = st ↔ (s.br c).state = st := by
  obtain ⟨hoff, hshed, hon⟩ := hst
  rw [State.shedVictim_state]
  split
  next hc =>
    have hc := (h.2.1 c).mp (List.mem_of_getLast? hc.2)
    exact iff_of_false hoff (hc ▸ hshed)
  next =>
    split
    next hc =>
      subst hc
      exact iff_of_false hshed (hv ▸ hon)
    next => exact Iff.rfl

theorem State.shedVictim_lawful (h : s.admissionLawful) (hm : s.load.mode = .shedding) (hv : IsVictim s v) :
    (s.shedVictim v).admissionLawful := by
  obtain ⟨hqueue, hslots, hstack, hf, hshed, hhold, hspace, hcalm, hlaws⟩ := h
  obtain ⟨hon, hprio, -⟩ := hv
  have hp := (s.shedVictim_change v).priority
  have hload := s.shedVictim_load v
  have harb := s.shedVictim_arbiter v
  refine ⟨hqueue.congr (by rw [harb]) (hstack.shedVictim_state_other hon ⟨nofun, nofun, nofun⟩) fun c _ => hp c,
    hslots.congr (by rw [harb]) (by rw [harb]) (hstack.shedVictim_state_other hon ⟨nofun, nofun, nofun⟩),
    hstack.push (congrArg LoadManager.stack hload) s.shedRest_sublist hstack.shedRest_length
      (by rw [hon]; exact nofun) hprio (hstack.shedVictim_state_iff hon) hp, ?_⟩
  unfold State.loadLawful
  rw [hload]
  refine ⟨fun c hc => ?_, hshed, hhold, hspace, fun hc => ?_, hlaws⟩
  · exact nomatch hm.symm.trans (hf c hc).1
  · exact nomatch hm.symm.trans hc

theorem State.shedStep_lawful (h : s.admissionLawful) (hm : s.load.mode = .shedding) : s.shedStep.admissionLawful := by
  unfold State.shedStep
  split
  next v hv => exact State.shedVictim_lawful h hm (State.victim_eq_some_iff.mp hv)
  next => exact State.exhaust_lawful h hm

/-- SHEDDING is entered with stress qualified, and no flight, hold or spacing left (R91). -/
theorem State.startShedding_lawful (hqueue : s.queueLawful) (hslots : s.slotsLawful) (hstack : s.stackLawful)
    (hqual : s.load.qualified = true) (hflight : s.load.inFlight = none) (hhold : s.load.holdTimer = none)
    (hspace : s.load.spacingTimer = none) : s.startShedding.admissionLawful := by
  refine State.shedStep_lawful (s := { s.startShedTimer with load.mode := .shedding }) ⟨hqueue, hslots, hstack, ?_⟩ rfl
  refine ⟨fun c hc => ?_, iff_of_true rfl rfl, ?_, ?_, nofun, fun _ => rfl, fun _ => hqual, fun h => h.elim nofun nofun⟩
  · exact nomatch hflight.symm.trans hc
  · exact iff_of_false (by simp [hhold]) nofun
  · exact iff_of_false (by simp [hspace]) fun h => nomatch h.1

end Operations

section LoadManagerLaws

variable {s u : State} {b v n : Branch}

/-! ### Rise and fall of qualified stress, recall, restore -/

/-- A recall without a QUEUED flight clears spacing and flight alone (R105). -/
theorem State.recall_of_not_queued (h : ∀ b, s.load.inFlight = some b → (s.br b).state ≠ .queued) :
    s.recall = { s with load.spacingTimer := none, load.inFlight := none } := by
  unfold State.recall
  cases hf : s.load.inFlight with
  | none => rfl
  | some b => exact if_neg (h b hf)

/-- A recall of a QUEUED flight (R105). -/
theorem State.recall_of_queued (hf : s.load.inFlight = some b) (hq : (s.br b).state = .queued) :
    s.recall.arbiter = { s.arbiter with queue := s.arbiter.queue.filter (· != b) }
      ∧ s.recall.load =
        { s.load with spacingTimer := none, inFlight := none, stack := b :: s.load.stack } := by
  have hq : (State.br { s with load.spacingTimer := none, load.inFlight := none } b).state = .queued := hq
  unfold State.recall
  rw [hf]
  dsimp only
  rw [if_pos hq]
  exact ⟨rfl, rfl⟩

/-- The recall ends spacing and flight and leaves the rest of the load manager alone, but for the stack (R105). -/
theorem State.recall_load (s : State) :
    ∃ stack, s.recall.load = { s.load with spacingTimer := none, inFlight := none, stack := stack } := by
  by_cases h : ∃ b, s.load.inFlight = some b ∧ (s.br b).state = .queued
  · obtain ⟨b, hf, hq⟩ := h
    exact ⟨_, (State.recall_of_queued hf hq).2⟩
  · rw [State.recall_of_not_queued fun b hf hq => h ⟨b, hf, hq⟩]
    exact ⟨s.load.stack, rfl⟩

/-- The recalled flight finds its place on the stack (R94, R105). -/
theorem State.recall_lawful (hqueue : s.queueLawful) (hslots : s.slotsLawful) (hstack : s.stackLawful)
    (hflight : ∀ c, s.load.inFlight = some c → 1 ≤ s.priority c ∧ s.load.stack.length < Config.stackCapacity) :
    s.recall.queueLawful ∧ s.recall.slotsLawful ∧ s.recall.stackLawful := by
  by_cases h : ∃ b, s.load.inFlight = some b ∧ (s.br b).state = .queued
  · obtain ⟨b, hf, hq⟩ := h
    obtain ⟨harb, hload⟩ := State.recall_of_queued hf hq
    obtain ⟨hprio, hroom⟩ := hflight b hf
    have hbr : ∀ c, (s.recall.br c).state = if c = b then .shed else (s.br c).state := fun c => by
      rw [State.br_recall]
      by_cases hc : c = b
      · subst hc
        rw [if_pos ⟨hf, hq⟩, if_pos rfl]
        rfl
      · rw [if_neg fun h => hc (Option.some.inj (hf.symm.trans h.1)).symm, if_neg hc]
    have hb' : (s.recall.br b).state = .shed := by rw [hbr, if_pos rfl]
    have hother : ∀ c, c ≠ b → (s.recall.br c).state = (s.br c).state := fun c hc => by rw [hbr, if_neg hc]
    have hp := s.recall_change.priority
    refine ⟨hqueue.leave (b := b) (by rw [harb]) (fun c => ?_) hp,
      hslots.congr (by rw [harb]) (by rw [harb])
        (State.state_iff_of_forall_ne hother (by rw [hq]; exact nofun) (by rw [hb']; exact nofun)),
      hstack.push (congrArg LoadManager.stack hload) (.refl _) hroom (by rw [hq]; exact nofun) hprio (fun c => ?_) hp⟩
    · rw [hbr]
      split
      next hc => exact iff_of_false nofun fun h => h.1 hc
      next hc => simp [hc]
    · rw [hbr, hstack.2.1 c]
      by_cases hc : c = b <;> simp [hc]
  · rw [State.recall_of_not_queued fun b hf hq => h ⟨b, hf, hq⟩]
    exact ⟨hqueue, hslots, hstack⟩

/-- A rise of qualified stress brings the load manager into SHEDDING (R89, R91, R105). -/
theorem State.qualifiedRise_lawful (h : s.admissionLawful) : s.qualifiedRise.admissionLawful := by
  obtain ⟨hqueue, hslots, hstack, hf, hshed, hhold, hspace, hcalm, hex, hqual, hstress⟩ := h
  have hnoflight : s.load.mode ≠ .restoring → s.load.inFlight = none := fun hm =>
    Option.eq_none_iff_forall_ne_some.mpr fun c hc => hm (hf c hc).1
  have hnohold : s.load.mode ≠ .hold → s.load.holdTimer = none := fun hm =>
    Option.not_isSome_iff_eq_none.mp fun h => hm (hhold.mp h)
  have hnospace : s.load.mode ≠ .restoring → s.load.spacingTimer = none := fun hm =>
    Option.not_isSome_iff_eq_none.mp fun h => hm (hspace.mp h).1
  unfold State.qualifiedRise
  dsimp only
  split
  next hm =>
    have hm : s.load.mode = .calm := hm
    exact State.startShedding_lawful (s := { s.latch .stress with load.qualified := true }) hqueue hslots hstack rfl
      (hnoflight (by simp [hm])) (hnohold (by simp [hm])) (hnospace (by simp [hm]))
  next hm =>
    have hm : s.load.mode = .hold := hm
    exact State.startShedding_lawful (s := { s.latch .stress with load.qualified := true, load.holdTimer := none })
      hqueue hslots hstack rfl (hnoflight (by simp [hm])) rfl (hnospace (by simp [hm]))
  next hm =>
    have hm : s.load.mode = .restoring := hm
    have recalled := State.recall_lawful (s := { s.latch .stress with load.qualified := true }) hqueue hslots hstack
      fun c hc => (hf c hc).2.2
    obtain ⟨stack, hload⟩ := State.recall_load { s.latch .stress with load.qualified := true }
    refine State.startShedding_lawful recalled.1 recalled.2.1 recalled.2.2 ?_ ?_ ?_ ?_ <;> rw [hload]
    exact hnohold (by simp [hm])
  next hm =>
    have hm : s.load.mode = .shedding := hm
    exact ⟨hqueue, hslots, hstack, hf, hshed, hhold, hspace, hcalm, hex, fun _ => rfl,
      fun h => by rcases h with h | h <;> exact nomatch hm.symm.trans h⟩

/-- A fall of qualified stress ends SHEDDING in HOLD (R89, R92). -/
theorem State.qualifiedFall_lawful (h : s.admissionLawful) : s.qualifiedFall.admissionLawful := by
  obtain ⟨hqueue, hslots, hstack, hf, hshed, hhold, hspace, hcalm, hex, hqual, hstress⟩ := h
  rw [State.qualifiedFall_eq]
  split
  next hm =>
    refine ⟨hqueue, hslots, hstack, fun c hc => ?_, iff_of_false nofun nofun, iff_of_true rfl rfl,
      iff_of_false (fun h => ?_) (fun h => nomatch h.1), nofun, nofun, nofun, fun _ => rfl⟩
    · exact nomatch hm.symm.trans (hf c hc).1
    · exact nomatch hm.symm.trans (hspace.mp h).1
  next hm => exact ⟨hqueue, hslots, hstack, hf, hshed, hhold, hspace, hcalm, hex, fun h => absurd h hm, fun _ => rfl⟩

/-- The top of the stack joins the queue as the flight (R102, R103). -/
theorem State.restoreStep_lawful {rest : List Branch} (hqueue : s.queueLawful) (hslots : s.slotsLawful)
    (hstack : s.stackLawful) (hs : s.load.stack = b :: rest) (hm : s.load.mode = .restoring)
    (hshed : ¬s.load.shedTimer.isSome = true) (hhold : ¬s.load.holdTimer.isSome = true)
    (hspace : ¬s.load.spacingTimer.isSome = true) (hex : ¬s.load.exhausted = true)
    (hqual : s.load.qualified = false) : s.restoreStep.admissionLawful := by
  have hbs : (s.br b).state = .shed := (hstack.2.1 b).mp (hs ▸ .head _)
  have hnotin : b ∉ rest := (List.nodup_cons.mp (hs ▸ hstack.1)).1
  have hroom : rest.length < Config.stackCapacity := by
    have := hstack.2.2.1
    rw [hs, List.length_cons] at this
    exact this
  have hp := s.restoreStep_change.priority
  have hstate : ∀ c, (s.restoreStep.br c).state = if c = b then .queued else (s.br c).state := fun c => by
    rw [State.br_restoreStep hs]
    split <;> rfl
  have harb : s.restoreStep.arbiter = { s.arbiter with queue := insertByPriority s.priority b s.arbiter.queue } := by
    unfold State.restoreStep
    rw [hs]
    rfl
  have hload : s.restoreStep.load = { s.load with stack := rest, inFlight := some b } := by
    unfold State.restoreStep
    rw [hs]
    rfl
  have hb' : (s.restoreStep.br b).state = .queued := by rw [hstate, if_pos rfl]
  have hother : ∀ c, c ≠ b → (s.restoreStep.br c).state = (s.br c).state := fun c hc => by rw [hstate, if_neg hc]
  refine ⟨hqueue.join (b := b) (by rw [hbs]; exact nofun) (by rw [harb]) (fun c => ?_) hp,
    hslots.congr (by rw [harb]) (by rw [harb])
      (State.state_iff_of_forall_ne hother (by rw [hbs]; exact nofun) (by rw [hb']; exact nofun)),
    hstack.sublist (by rw [hload, hs]; exact List.sublist_cons_self b rest) (fun c => ?_) fun c _ => hp c, ?_⟩
  · rw [hstate]
    by_cases hc : c = b <;> simp [hc]
  · rw [hload, hstate]
    by_cases hc : c = b
    · simp [hc, hnotin]
    · have hmem := hstack.2.1 c
      rw [hs, List.mem_cons, or_iff_right hc] at hmem
      rw [if_neg hc, ← hmem]
  · unfold State.loadLawful
    rw [hload]
    refine ⟨fun c hc => ?_, iff_of_false hshed (by simp [hm]), iff_of_false hhold (by simp [hm]),
      iff_of_false hspace (fun h => nomatch h.2), fun h => ?_, fun h => absurd h hex, fun h => ?_, fun _ => hqual⟩
    · obtain rfl := Option.some.inj hc
      refine ⟨hm, .inl hb', ?_, hroom⟩
      rw [hp]
      exact hstack.2.2.2 b (hs ▸ .head _)
    · exact nomatch hm.symm.trans h
    · exact nomatch hm.symm.trans h

/-- With the timers of SHEDDING, HOLD and RESTORING stopped and no flight, the restore goes on or ends in CALM
(R93, R104). -/
theorem State.restoreOrCalm_lawful (hqueue : s.queueLawful) (hslots : s.slotsLawful) (hstack : s.stackLawful)
    (hflight : s.load.inFlight = none) (hshed : s.load.shedTimer = none) (hhold : s.load.holdTimer = none)
    (hspace : s.load.spacingTimer = none) (hex : s.load.exhausted = false) (hqual : s.load.qualified = false) :
    s.restoreOrCalm.admissionLawful := by
  have hshed : ¬s.load.shedTimer.isSome = true := by simp [hshed]
  have hhold : ¬s.load.holdTimer.isSome = true := by simp [hhold]
  have hspace : ¬s.load.spacingTimer.isSome = true := by simp [hspace]
  have hex : ¬s.load.exhausted = true := by simp [hex]
  unfold State.restoreOrCalm
  cases hs : s.load.stack with
  | nil =>
    exact ⟨hqueue, hslots, hstack, fun c hc => (nomatch hflight.symm.trans hc), iff_of_false hshed nofun,
      iff_of_false hhold nofun, iff_of_false hspace (fun h => nomatch h.1), fun _ => hs, fun h => absurd h hex, nofun,
      fun h => h.elim nofun nofun⟩
  | cons b rest =>
    exact State.restoreStep_lawful (s := { s with load.mode := .restoring }) hqueue hslots hstack hs rfl hshed hhold
      hspace hex hqual

end LoadManagerLaws

section Commands

variable {s u : State} {b n : Branch}

/-! ### Each command keeps the laws of admission -/

theorem State.admissionLawful.closeCommand (h : s.admissionLawful) : s.closeCommand.admissionLawful := by
  unfold State.closeCommand
  split
  · exact h
  · split
    · exact h
    · split
      next hoff => exact h.joinQueue (State.idle_of_state hoff ⟨nofun, nofun, nofun⟩)
      next => exact h

/-- The branch that OPEN takes to OFF is idle, and the others are as they were. -/
theorem State.openBranch_state (hb : (s.br b).state ≠ .lockout) :
    (s.openBranch b).Idle b ∧ ∀ c, c ≠ b → ((s.openBranch b).br c).state = (s.br c).state := by
  have hbr := State.br_set s b (s.br b).toOff (s.openBranch b)
  rw [State.openBranch_branches] at hbr
  by_cases hoff : (s.br b).state = .off
  · have hsame : ∀ c, (s.openBranch b).br c = s.br c :=
      State.br_congr (by rw [State.openBranch_branches, if_pos (.inl hoff)])
    exact ⟨State.idle_of_state ((congrArg BranchRec.state (hsame b)).trans hoff) ⟨nofun, nofun, nofun⟩,
      fun c _ => congrArg BranchRec.state (hsame c)⟩
  · rw [if_neg (not_or.mpr ⟨hoff, hb⟩)] at hbr
    have hbr := hbr rfl
    exact ⟨State.idle_of_state (congrArg BranchRec.state ((hbr b).trans (if_pos rfl))) ⟨nofun, nofun, nofun⟩,
      fun c hc => congrArg BranchRec.state ((hbr c).trans (if_neg hc))⟩

theorem State.admissionLawful.openBranch (h : s.admissionLawful) : (s.openBranch b).admissionLawful := by
  by_cases hlock : (s.br b).state = .lockout
  · unfold State.openBranch
    rw [hlock]
    exact h
  · obtain ⟨hidle, hother⟩ := State.openBranch_state hlock
    have hp := (s.openBranch_change b).priority
    cases hst : (s.br b).state with
    | lockout => exact absurd hst hlock
    | off =>
      refine h.idle (State.idle_of_state hst ⟨nofun, nofun, nofun⟩) hidle hother hp ?_ ?_ <;>
        simp [State.openBranch, hst]
    | on | dead =>
      refine h.idle (State.idle_of_state hst ⟨nofun, nofun, nofun⟩) hidle hother hp ?_ ?_ <;>
        simp [State.openBranch, hst]
    | queued =>
      refine h.leaveQueue hst hidle hother hp ?_ ?_ <;> simp [State.openBranch, hst, State.endFlightOf_eq]
    | inrush =>
      refine h.leaveInrush hst hidle hother hp ?_ ?_ <;> simp [State.openBranch, hst, State.endFlightOf_eq]
    | shed =>
      refine h.leaveStack hst hidle hother hp ?_ ?_ <;> simp [State.openBranch, hst]

theorem State.admissionLawful.openCommand (h : s.admissionLawful) : s.openCommand.admissionLawful := by
  unfold State.openCommand
  split
  · exact h
  · exact h.openBranch

theorem State.admissionLawful.rearmCommand (h : s.admissionLawful) : s.rearmCommand.admissionLawful := by
  unfold State.rearmCommand
  split
  · exact h
  next b _ =>
    split
    next hlock =>
      have hbr : ∀ c, (s.updBr b (·.toOff)).br c = if c = b then (s.br b).toOff else s.br c := fun c =>
        State.br_updBr s b _ c
      refine State.admissionLawful.idle (t := (s.updBr b (·.toOff)).withResult .done) (b := b) h
        (State.idle_of_state hlock ⟨nofun, nofun, nofun⟩)
        (State.idle_of_state (congrArg BranchRec.state ((hbr b).trans (if_pos rfl))) ⟨nofun, nofun, nofun⟩)
        (fun c hc => congrArg BranchRec.state ((hbr c).trans (if_neg hc)))
        (SequencerChange.updBr s fun r => r.toOff_inputs).priority rfl rfl
    next => exact h

/-- After an all-off every branch is OFF or locked out. -/
theorem State.takeAllOff_lawful (s : State) (cause : RecordCause) : (s.takeAllOff cause).admissionLawful := by
  refine State.admissionLawful_of_idle (fun b => ?_) rfl rfl rfl
  unfold State.Idle
  rw [State.br_takeAllOff]
  split
  · exact ⟨nofun, nofun, nofun⟩
  next hidle =>
    cases hst : (s.br b).state <;> simp [hst, BranchState.active] at hidle
    · exact ⟨nofun, nofun, nofun⟩
    · exact ⟨nofun, nofun, nofun⟩

/-- Different idle branches join the queue one after another. -/
theorem State.admissionLawful.foldl_joinQueue {l : List Branch} (hl : l.Nodup) (h : s.admissionLawful)
    (hidle : ∀ b ∈ l, s.Idle b) : (l.foldl State.joinQueue s).admissionLawful := by
  induction l generalizing s with
  | nil => exact h
  | cons b l ih =>
    obtain ⟨hb, hl⟩ := List.nodup_cons.mp hl
    refine ih hl (h.joinQueue (hidle b (.head _))) fun c hc => ?_
    unfold State.Idle
    rw [State.br_joinQueue, if_neg fun e : c = b => hb (e ▸ hc)]
    exact hidle c (.tail _ hc)

theorem State.takeRestart_lawful (s : State) : s.takeRestart.admissionLawful := by
  have hidle : ∀ b, s.restartCleared.Idle b := fun b =>
    State.idle_of_state (congrArg BranchRec.state (s.br_restartCleared b)) ⟨nofun, nofun, nofun⟩
  rw [State.takeRestart_eq]
  exact State.admissionLawful.foldl_joinQueue ((List.nodup_finRange 8).filter _)
    (State.admissionLawful_of_idle hidle rfl rfl rfl) fun b _ => hidle b

theorem State.admissionLawful.restartCommand (h : s.admissionLawful) : s.restartCommand.admissionLawful := by
  unfold State.restartCommand
  split
  · exact h
  · exact s.takeRestart_lawful

theorem State.admissionLawful.signCommand (h : s.admissionLawful) : s.signCommand.admissionLawful := by
  unfold State.signCommand
  split
  · split <;> exact h
  · exact h

theorem State.admissionLawful.logAdvCommand (h : s.admissionLawful) : s.logAdvCommand.admissionLawful := by
  unfold State.logAdvCommand
  split <;> exact h

theorem State.admissionLawful.writeCmd (h : s.admissionLawful) (code : Byte) : (s.writeCmd code).admissionLawful := by
  unfold State.writeCmd
  split
  · exact h.closeCommand
  · exact h.openCommand
  · exact h.rearmCommand
  · exact s.takeAllOff_lawful .command
  · exact h.restartCommand
  · exact h.signCommand
  · exact h
  · exact h.logAdvCommand
  · exact h
  · exact h

/-- A profile changes in OFF alone, where its PRIORITY does not count. -/
theorem State.admissionLawful.writeProfile (h : s.admissionLawful) (f : ProfileField) (v : Byte) :
    (s.writeProfile f v).admissionLawful := by
  unfold State.writeProfile
  dsimp only
  split
  · exact h
  next hoff =>
    split
    · have stored : (s.updBr s.window.bptr fun r => { r with profile := r.profile.store f v }).admissionLawful :=
        h.updBr rfl fun hn => absurd (not_not.mp hoff) hn
      unfold State.profileNotice
      split <;> exact stored
    · exact h

theorem State.admissionLawful.ite {p : Prop} [Decidable p] (h : s.admissionLawful) (hu : u.admissionLawful) :
    (if p then s else u).admissionLawful := by
  split
  · exact h
  · exact hu

theorem State.admissionLawful.writePrescale (h : s.admissionLawful) (v : Byte) :
    (s.writePrescale v).admissionLawful := by
  unfold State.writePrescale
  split
  · exact h
  · exact .ite h h

theorem State.admissionLawful.writeLogthr (h : s.admissionLawful) (v : Byte) : (s.writeLogthr v).admissionLawful := by
  unfold State.writeLogthr
  exact .ite h h

theorem State.admissionLawful.acknowledge (h : s.admissionLawful) (v : Byte) : (s.acknowledge v).admissionLawful := by
  unfold State.acknowledge
  exact .ite h h

theorem State.admissionLawful.writeIrqen (h : s.admissionLawful) (v : Byte) : (s.writeIrqen v).admissionLawful := by
  unfold State.writeIrqen
  exact .ite h h

/-- SLOTS changes with no branch in INRUSH alone (R76). -/
theorem State.admissionLawful.writeSlots (h : s.admissionLawful) (v : Byte) : (s.writeSlots v).admissionLawful := by
  unfold State.writeSlots
  split
  · exact h
  · split
    · exact h
    next hactive =>
      obtain ⟨hqueue, ⟨hcount, -⟩, hstack, hl⟩ := h
      refine ⟨hqueue, ⟨hcount, ?_⟩, hstack, hl⟩
      have hzero : s.countIn .inrush = 0 := State.countIn_eq_zero fun b hb =>
        hactive (List.any_eq_true.mpr ⟨b, mem_allBranches b, by rw [hb]; rfl⟩)
      exact (hcount.trans hzero).symm ▸ Nat.zero_le _

theorem State.admissionLawful.writeOther (h : s.admissionLawful) (loc : Loc) (v : Byte) :
    (s.writeOther loc v).admissionLawful := by
  unfold State.writeOther
  split <;> (try split) <;> exact h

theorem State.admissionLawful.writeLocation (h : s.admissionLawful) (loc : Loc) (v : Byte) :
    (s.writeLocation loc v).admissionLawful := by
  unfold State.writeLocation
  cases profileFieldAt loc with
  | some f => exact h.writeProfile f v
  | none =>
    dsimp only
    split
    · exact h.writeCmd v
    · exact h.writePrescale v
    · exact h.writeSlots v
    · exact h.writeLogthr v
    · exact h.acknowledge v
    · exact h.writeIrqen v
    · exact h.writeOther loc v

/-! #### Events of the detectors -/

theorem State.admissionLawful.recordSc (h : s.admissionLawful) {level : Bool} :
    (s.recordSc n level).admissionLawful := h.retimed (fun _ => rfl) fun _ => rfl

theorem State.admissionLawful.takeScAssertion (h : s.admissionLawful) : (s.takeScAssertion n).admissionLawful := by
  have recorded : (s.recordSc n true).admissionLawful := h.recordSc
  unfold State.takeScAssertion
  dsimp only
  split
  next hst => exact recorded.tripInrush hst .sc
  next hst => exact recorded.tripOn hst .sc
  all_goals exact recorded

theorem State.admissionLawful.takeOcAssertion (h : s.admissionLawful) : (s.takeOcAssertion n).admissionLawful := by
  have recorded : (s.recordOc n true).admissionLawful := h.retimed (fun _ => rfl) fun _ => rfl
  unfold State.takeOcAssertion
  dsimp only
  split
  next hst => exact recorded.overcurrent hst
  next => exact recorded

theorem State.admissionLawful.takeOcRelease (h : s.admissionLawful) : (s.takeOcRelease n).admissionLawful :=
  h.retimed (fun _ => rfl) fun _ => rfl

theorem State.admissionLawful.takePgAssertion (h : s.admissionLawful) : (s.takePgAssertion n).admissionLawful := by
  have recorded : (s.recordPg n true).admissionLawful := h.retimed (fun _ => rfl) fun _ => rfl
  unfold State.takePgAssertion
  dsimp only
  split
  next hdone => exact recorded.complete (BranchRec.blankingDone_iff.mp hdone).1
  next => exact .ite (recorded.retimed (fun _ => rfl) fun _ => rfl) recorded

theorem State.admissionLawful.takePgRelease (h : s.admissionLawful) : (s.takePgRelease n).admissionLawful := by
  have recorded : (s.recordPg n false).admissionLawful := h.retimed (fun _ => rfl) fun _ => rfl
  unfold State.takePgRelease
  exact .ite (recorded.retimed (fun _ => rfl) fun _ => rfl) recorded

/-- The shape of the expiries of a branch's timers. -/
theorem State.admissionLawful.expiry (h : s.admissionLawful) {stop : BranchRec → BranchRec} {p q : Prop} [Decidable p]
    [Decidable q] (hst : ∀ r, (stop r).state = r.state) (hp : ∀ r, (stop r).profile = r.profile)
    (hu : q → (s.updBr n stop).admissionLawful → u.admissionLawful) :
    (if p then s else if q then u else s.updBr n stop).admissionLawful := by
  have stopped : (s.updBr n stop).admissionLawful := h.retimed hst hp
  split
  · exact h
  · split
    next hq => exact hu hq stopped
    next => exact stopped

theorem State.admissionLawful.expireOcQualify (h : s.admissionLawful) : (s.expireOcQualify n).admissionLawful :=
  h.expiry (fun _ => rfl) (fun _ => rfl) fun hon stopped => stopped.tripOn hon .oc

theorem State.admissionLawful.expirePgLoss (h : s.admissionLawful) : (s.expirePgLoss n).admissionLawful :=
  h.expiry (fun _ => rfl) (fun _ => rfl) fun hon stopped => stopped.tripOn hon .pgloss

theorem State.admissionLawful.expireBlanking (h : s.admissionLawful) : (s.expireBlanking n).admissionLawful :=
  h.expiry (fun _ => rfl) (fun _ => rfl) fun hinrush stopped => stopped.complete hinrush.1

theorem State.admissionLawful.expireRise (h : s.admissionLawful) : (s.expireRise n).admissionLawful :=
  h.expiry (fun _ => rfl) (fun _ => rfl) fun hinrush stopped => stopped.tripInrush hinrush.1 .norise

theorem State.admissionLawful.expireDead (h : s.admissionLawful) : (s.expireDead n).admissionLawful :=
  h.expiry (fun _ => rfl) (fun _ => rfl) fun hdead stopped =>
    stopped.joinQueue (State.idle_of_state hdead ⟨nofun, nofun, nofun⟩)

theorem State.admissionLawful.expireSettle (h : s.admissionLawful) : (s.expireSettle n).admissionLawful :=
  h.expiry (fun _ => rfl) (fun _ => rfl) fun _ stopped => stopped.retimed (fun _ => rfl) fun _ => rfl

/-! #### Events of the load manager -/

theorem State.admissionLawful.expireStressQualify (h : s.admissionLawful) : s.expireStressQualify.admissionLawful :=
  h.ite (State.qualifiedRise_lawful (s := { s with load.qualifyTimer := none }) h)

theorem State.admissionLawful.takeStressAssertion (h : s.admissionLawful) {i : StressInput} :
    (s.takeStressAssertion i).admissionLawful := by
  have recorded : State.admissionLawful { s with load := s.load.setLevel i true } := by cases i <;> exact h
  exact recorded.ite ((State.qualifiedRise_lawful recorded).ite recorded)

theorem State.admissionLawful.takeStressRelease (h : s.admissionLawful) {i : StressInput} :
    (s.takeStressRelease i).admissionLawful := by
  have recorded : State.admissionLawful { s with load := s.load.setLevel i false } := by cases i <;> exact h
  have stopped : State.admissionLawful { s with load := { s.load.setLevel i false with qualifyTimer := none } } :=
    recorded
  exact recorded.ite ((State.qualifiedFall_lawful stopped).ite stopped)

/-- The shed interval has no part in a shed step. -/
theorem State.shedStep_startShedTimer (s : State) :
    (State.shedStep { s with load.shedTimer := none }).startShedTimer = s.shedStep.startShedTimer := by
  have hv : State.victim { s with load.shedTimer := none } = s.victim := rfl
  unfold State.shedStep
  rw [hv]
  cases s.victim with
  | none =>
    dsimp only
    unfold State.exhaust
    dsimp only
    split <;> rfl
  | some v =>
    dsimp only
    unfold State.shedVictim
    dsimp only
    split <;> rfl

theorem State.shedStep_mode (s : State) : s.shedStep.load.mode = s.load.mode := by
  unfold State.shedStep
  split
  · rw [State.shedVictim_load]
  · unfold State.exhaust
    split <;> rfl

theorem State.admissionLawful.startShedTimer (h : s.admissionLawful) (hm : s.load.mode = .shedding) :
    s.startShedTimer.admissionLawful := by
  obtain ⟨hqueue, hslots, hstack, hf, -, hlaws⟩ := h
  exact ⟨hqueue, hslots, hstack, hf, iff_of_true rfl hm, hlaws⟩

theorem State.admissionLawful.expireShedInterval (h : s.admissionLawful) : s.expireShedInterval.admissionLawful := by
  unfold State.expireShedInterval
  split
  · exact h
  next hrun =>
    have hm : s.load.mode = .shedding := h.2.2.2.2.1.mp (by simpa [Option.isSome_iff_ne_none] using hrun)
    have step : State.admissionLawful (State.startShedTimer (State.shedStep { s with load.shedTimer := none })) := by
      rw [State.shedStep_startShedTimer]
      exact (State.shedStep_lawful h hm).startShedTimer (s.shedStep_mode.trans hm)
    dsimp only
    rw [if_pos hm]
    exact step

theorem State.admissionLawful.expireHold (h : s.admissionLawful) : s.expireHold.admissionLawful := by
  unfold State.expireHold
  split
  · exact h
  next hrun =>
    obtain ⟨hqueue, hslots, hstack, hf, hshed, hhold, hspace, -, hex, -, hqual⟩ := h
    have hm : s.load.mode = .hold := hhold.mp (by simpa [Option.isSome_iff_ne_none] using hrun)
    dsimp only
    rw [if_pos hm]
    refine State.restoreOrCalm_lawful (s := { s with load.holdTimer := none }) hqueue hslots hstack ?_ ?_ rfl ?_ ?_
      (hqual (.inl hm))
    · exact Option.eq_none_iff_forall_ne_some.mpr fun c hc => nomatch hm.symm.trans (hf c hc).1
    · exact Option.not_isSome_iff_eq_none.mp fun h => nomatch hm.symm.trans (hshed.mp h)
    · exact Option.not_isSome_iff_eq_none.mp fun h => nomatch hm.symm.trans (hspace.mp h).1
    · exact eq_false_of_ne_true fun h => nomatch hm.symm.trans (hex h)

theorem State.admissionLawful.expireSpacing (h : s.admissionLawful) : s.expireSpacing.admissionLawful := by
  unfold State.expireSpacing
  split
  · exact h
  next hrun =>
    obtain ⟨hqueue, hslots, hstack, hf, hshed, hhold, hspace, -, hex, -, hqual⟩ := h
    obtain ⟨hm, hflight⟩ : s.load.mode = .restoring ∧ s.load.inFlight = none :=
      hspace.mp (by simpa [Option.isSome_iff_ne_none] using hrun)
    dsimp only
    rw [if_pos hm]
    refine State.restoreOrCalm_lawful (s := { s with load.spacingTimer := none }) hqueue hslots hstack hflight ?_ ?_ rfl
      ?_ (hqual (.inr hm))
    · exact Option.not_isSome_iff_eq_none.mp fun h => nomatch hm.symm.trans (hshed.mp h)
    · exact Option.not_isSome_iff_eq_none.mp fun h => nomatch hm.symm.trans (hhold.mp h)
    · exact eq_false_of_ne_true fun h => nomatch hm.symm.trans (hex h)

theorem State.admissionLawful.expireSignature (h : s.admissionLawful) : s.expireSignature.admissionLawful := by
  unfold State.expireSignature
  split
  · exact h
  · split
    · dsimp only
      split <;> exact h
    · exact h

/-! ### Every step keeps the laws of admission -/

theorem State.admissionLawful.whenTicking {f : State → State} (h : s.admissionLawful) (hf : (f s).admissionLawful) :
    (s.whenTicking f).admissionLawful := hf.ite h

theorem State.holdReset_lawful (s : State) : s.holdReset.admissionLawful :=
  State.admissionLawful_of_idle
    (fun b => State.idle_of_state (congrArg BranchRec.state (s.br_holdReset b)) ⟨nofun, nofun, nofun⟩) rfl rfl rfl

theorem State.releaseReset_lawful (s : State) : s.releaseReset.admissionLawful := by
  have hload : s.releaseReset.load = _ := LoadManager.released_eq s.pins
  refine State.admissionLawful_of_idle
    (fun b => State.idle_of_state (congrArg BranchRec.state (s.br_releaseReset b)) ⟨nofun, nofun, nofun⟩) rfl rfl ?_
  rw [hload]
  rfl

theorem State.admissionLawful.taken (h : s.admissionLawful) (c : Instr) : (s.taken c).admissionLawful := by
  cases c with
  | resetAssertion => exact State.holdReset_lawful _
  | hardwareReset => exact s.releaseReset_lawful
  | close => exact h.closeCommand
  | openBranch => exact h.openCommand
  | rearm => exact h.rearmCommand
  | allOff => exact s.takeAllOff_lawful .command
  | restart => exact h.restartCommand
  | sign => exact h.signCommand
  | logAdv => exact h.logAdvCommand
  | digestClr | logClr | msloRead | logdataRead => exact h
  | unknownCommand code => exact h.writeCmd code
  | profileWrite f v => exact h.writeProfile f v
  | prescaleWrite v => exact h.writePrescale v
  | slotsWrite v => exact h.writeSlots v
  | irqpendAcknowledge v => exact h.acknowledge v
  | irqenWrite v => exact h.writeIrqen v
  | logthrWrite v => exact h.writeLogthr v
  | registerWrite loc v => exact h.writeLocation loc v
  | scAssertion n => exact h.ite (State.admissionLawful.takeScAssertion h)
  | scRelease n => exact h.ite (State.admissionLawful.recordSc h)
  | ocAssertion n => exact h.ite (State.admissionLawful.takeOcAssertion h)
  | ocRelease n => exact h.ite (State.admissionLawful.takeOcRelease h)
  | pgAssertion n => exact h.ite (State.admissionLawful.takePgAssertion h)
  | pgRelease n => exact h.ite (State.admissionLawful.takePgRelease h)
  | stressInputAssertion i =>
    exact h.ite (State.admissionLawful.takeStressAssertion (s := { s with pins := s.pins.setStressPin i true }) h)
  | stressInputRelease i =>
    exact h.ite (State.admissionLawful.takeStressRelease (s := { s with pins := s.pins.setStressPin i false }) h)
  | estopAssertion => exact h.ite (State.takeAllOff_lawful _ .pin)
  | estopRelease => exact h.ite h
  | millisecondBoundary => exact h.whenTicking h
  | ocQualifyExpiry n => exact h.whenTicking h.expireOcQualify
  | pgLossExpiry n => exact h.whenTicking h.expirePgLoss
  | blankingExpiry n => exact h.whenTicking h.expireBlanking
  | riseExpiry n => exact h.whenTicking h.expireRise
  | deadExpiry n => exact h.whenTicking h.expireDead
  | settleExpiry n => exact h.whenTicking h.expireSettle
  | staggerExpiry => exact h.whenTicking h
  | stressQualifyExpiry => exact h.whenTicking h.expireStressQualify
  | shedIntervalExpiry => exact h.whenTicking h.expireShedInterval
  | holdExpiry => exact h.whenTicking h.expireHold
  | restoreSpacingExpiry => exact h.whenTicking h.expireSpacing
  | signatureRecordExpiry => exact h.whenTicking h.expireSignature
  | grant =>
    refine h.whenTicking ?_
    split
    next hg => exact h.takeGrant hg
    next => exact h

theorem exec_keeps_admissionLawful {c : Instr} {t : State} (h : s.admissionLawful) (he : exec c s = .next t) :
    t.admissionLawful := by
  cases hr : s.pins.reset with
  | false =>
    rw [exec_running hr] at he
    obtain rfl := Host.Outcome.next.inj he
    exact h.taken c
  | true =>
    by_cases hc : c = .hardwareReset
    · subst hc
      obtain rfl := Host.Outcome.next.inj he
      exact s.releaseReset_lawful
    · rw [exec_held hr hc] at he
      obtain rfl := Host.Outcome.next.inj he
      exact h

/-- A tick end starts and stops no timer of the load manager. -/
theorem State.admissionLawful.clockPeriod (h : s.admissionLawful) : s.clockPeriod.admissionLawful := by
  rw [State.clockPeriod_eq]
  refine .ite ?_ h
  have hst : ∀ c, (s.endTick.br c).state = (s.br c).state := fun c => by rw [State.br_endTick]; rfl
  have hp : ∀ c, s.endTick.priority c = s.priority c := fun c => by
    unfold State.priority
    rw [State.br_endTick]
    rfl
  have hrun : ∀ t : Timer, (Timer.countDown t).isSome = t.isSome := fun t => by simp
  obtain ⟨hqueue, hslots, hstack, hf, hshed, hhold, hspace, hlaws⟩ := h
  refine ⟨hqueue.congr rfl (fun c => by rw [hst]) fun c _ => hp c, hslots.congr rfl rfl fun c => by rw [hst],
    hstack.congr rfl (fun c => by rw [hst]) fun c _ => hp c, fun c hc => ?_, ?_, ?_, ?_, hlaws⟩
  · rw [hst, hp]
    exact hf c hc
  · exact (hrun s.load.shedTimer).symm ▸ hshed
  · exact (hrun s.load.holdTimer).symm ▸ hhold
  · exact (hrun s.load.spacingTimer).symm ▸ hspace

end Commands

/-- Settles O54. -/
theorem stepKeepsAdmissionLawful : Obligations.StepKeepsAdmissionLawful := by
  intro s t h hstep
  rcases step_cases hstep with ⟨hp, rfl⟩ | ⟨c, rest, -, he⟩
  · rcases State.idle_cases hp with ⟨-, e⟩ | ⟨-, -, e⟩ | ⟨-, -, e⟩ | ⟨-, -, -, e⟩ <;> rw [e]
    · exact h
    · exact State.admissionLawful.clockPeriod h
    · exact h
    · exact State.admissionLawful.clockPeriod h
  · exact exec_keeps_admissionLawful (s := { s with pending := rest }) h he

/-! ### Commands one by one -/

section Running

variable {s t : State} {c : Instr} {b : Branch}

/-- With RESET# released the next state is what the command does. -/
theorem exec_of_taken (h : s.running) (ht : s.taken c = t) : exec c s = .next t := ht ▸ exec_running h c

/-- With CLKIN running besides, the same for what follows from the tick or from a due grant. -/
theorem exec_of_ticking (h : s.clocked) {f : State → State} (hc : s.taken c = s.whenTicking f) (ht : f s = t) :
    exec c s = .next t :=
  exec_of_taken h.1 (hc.trans ((State.whenTicking_clocked h f).trans ht))

/-- A change of state from a state that runs no timer. -/
theorem BranchRec.moveTo_of_untimed {r : BranchRec}
    (h : r.state = .off ∨ r.state = .queued ∨ r.state = .lockout ∨ r.state = .shed) (st : BranchState) :
    r.moveTo st = { r with state := st } := by
  rcases h with h | h | h | h <;> simp [BranchRec.moveTo, BranchRec.cancelTimers, h]

/-- The queue with a new entry between what stands ahead of it and what stands behind it (R71). -/
theorem State.joinQueue_of_split {front back : List Branch} (h : QueueSplit s b front back) :
    s.joinQueue b =
      { s with branches := s.branches.set b ((s.br b).moveTo .queued), arbiter.queue := front ++ b :: back } := by
  obtain ⟨hq, hfront, hback⟩ := h
  rw [← insertByPriority_split (prio := s.priority) hfront hback, ← hq]
  rfl

/-! #### CLOSE, OPEN, REARM (R24 to R29, R67) -/

theorem State.closeCommand_of_arg (h : branchArgument s.window.arg0 = some b) :
    s.closeCommand =
      if s.estop then s.withResult .held
      else if (s.br b).state = .off then (s.joinQueue b).withResult .done
      else s.withResult .wrongState := by
  unfold State.closeCommand
  rw [h]

theorem State.openCommand_of_arg (h : branchArgument s.window.arg0 = some b) : s.openCommand = s.openBranch b := by
  unfold State.openCommand
  rw [h]

theorem State.rearmCommand_of_arg (h : branchArgument s.window.arg0 = some b) :
    s.rearmCommand =
      if (s.br b).state = .lockout then (s.updBr b (·.toOff)).withResult .done else s.withResult .wrongState := by
  unfold State.rearmCommand
  rw [h]

end Running

/-- Settles O1: a step looks at the queue alone to find its command. -/
theorem stepRunsTheFrontCommand : Obligations.StepRunsTheFrontCommand := fun _ _ _ => rfl

/-- Settles O8. -/
theorem branchCommandsRefuseInOrder : Obligations.BranchCommandsRefuseInOrder := by
  refine fun s h => ⟨fun harg => ?_, fun b harg => ?_⟩
  · have harg := branchArgument_eq_none.mpr harg
    refine ⟨exec_of_taken h ?_, exec_of_taken h ?_, exec_of_taken h ?_⟩
    · show s.closeCommand = s.withResult .badArg
      rw [State.closeCommand, harg]
    · show s.openCommand = s.withResult .badArg
      rw [State.openCommand, harg]
    · show s.rearmCommand = s.withResult .badArg
      rw [State.rearmCommand, harg]
  · have harg := branchArgument_eq_some.mpr harg
    refine ⟨fun he => exec_of_taken h ?_, fun he hst => exec_of_taken h ?_, fun hst => exec_of_taken h ?_,
      fun hst => exec_of_taken h ?_, fun hst => exec_of_taken h ?_⟩
    · exact (State.closeCommand_of_arg harg).trans (if_pos he)
    · exact (State.closeCommand_of_arg harg).trans ((if_neg (by simp [he])).trans (if_neg hst))
    · refine (State.openCommand_of_arg harg).trans ?_
      rw [State.openBranch, hst]
      rfl
    · refine (State.openCommand_of_arg harg).trans ?_
      rw [State.openBranch, hst]
      rfl
    · exact (State.rearmCommand_of_arg harg).trans (if_neg hst)

/-- Settles O9. -/
theorem closeJoinsTheQueueByPriority : Obligations.CloseJoinsTheQueueByPriority := by
  intro s b front back h harg he hoff hsplit
  refine exec_of_taken h ((State.closeCommand_of_arg (branchArgument_eq_some.mpr harg)).trans ?_)
  rw [if_neg (by simp [he]), if_pos hoff, State.joinQueue_of_split hsplit, BranchRec.moveTo_of_untimed (.inl hoff)]
  rfl

/-- Settles O10. -/
theorem openTakesBranchToOff : Obligations.OpenTakesBranchToOff := by
  intro s b h harg
  have taken : ∀ {t}, s.openBranch b = t → exec .openBranch s = .next t := fun ht =>
    exec_of_taken h ((State.openCommand_of_arg (branchArgument_eq_some.mpr harg)).trans ht)
  refine ⟨fun front back hst hq hf hk => taken ?_, fun hst => taken ?_, fun hst => taken ?_, fun hst => taken ?_,
    fun above below hst hs hf hk => taken ?_⟩
  all_goals
    have hoff : (s.br b).toOff = (s.br b).intoOff := BranchRec.toOff_eq _
    simp only [BranchRec.intoOff, hst] at hoff
    rw [State.openBranch, hst]
    dsimp only
  · rw [State.endFlightOf_eq, State.updBr, State.br_leaveQueue, hoff, State.leaveQueue, hq, filter_ne_split hf hk]
    rfl
  · rw [State.endFlightOf_eq, State.updBr, hoff]
    rfl
  · rw [State.updBr, hoff]
    rfl
  · rw [State.updBr, hoff]
    rfl
  · rw [State.updBr, hoff, hs, filter_ne_split hf hk]
    rfl

/-- Settles O11. -/
theorem rearmLiftsTheLockout : Obligations.RearmLiftsTheLockout := by
  intro s b h harg hlock
  refine exec_of_taken h ((State.rearmCommand_of_arg (branchArgument_eq_some.mpr harg)).trans ?_)
  have hoff : (s.br b).toOff = { s.br b with state := .off, attempts := 0 } := by
    rw [BranchRec.toOff, BranchRec.moveTo_of_untimed (.inr (.inr (.inl hlock)))]
  rw [if_pos hlock, State.updBr, hoff]
  rfl

/-! #### All-off, restart, RESET# -/

/-- Settles O12. -/
theorem allOffTakesActiveBranchesToOff : Obligations.AllOffTakesActiveBranchesToOff := by
  intro s h
  refine ⟨⟨_, exec_running h .allOff, State.takeAllOff_effect s .command, rfl, rfl, rfl⟩, fun hp => ?_, fun hp => ?_⟩
  · have taken : s.taken .estopAssertion = State.takeEstopAssertion { s with pins.estop := true } :=
      if_neg (by simp [hp])
    exact ⟨_, exec_of_taken h taken, State.takeAllOff_effect { s with pins.estop := true, estop := true } .pin, rfl,
      rfl, rfl⟩
  · exact exec_of_taken h (if_neg (by simp [hp]))

/-- Ascending PRIORITY, and for equal PRIORITY ascending number (R72). -/
def PriorityThenNumber (prio : Branch → Nat) (a c : Branch) : Prop :=
  prio a < prio c ∨ (prio a = prio c ∧ a < c)

/-- Insertion of a number larger than every entry's keeps the queue by PRIORITY and then by number (R71). -/
theorem insertByPriority_pairwise_number {prio : Branch → Nat} {b : Branch} {l : List Branch}
    (hl : l.Pairwise (PriorityThenNumber prio)) (hb : ∀ c ∈ l, c < b) :
    (insertByPriority prio b l).Pairwise (PriorityThenNumber prio) := by
  induction l with
  | nil => simp [insertByPriority]
  | cons c cs ih =>
    obtain ⟨hc, hcs⟩ := List.pairwise_cons.mp hl
    unfold insertByPriority
    split
    next hle =>
      refine List.pairwise_cons.mpr ⟨fun a ha => ?_, ih hcs fun d hd => hb d (.tail _ hd)⟩
      rcases mem_insertByPriority.mp ha with rfl | ha
      · exact (Nat.lt_or_eq_of_le hle).imp_right fun h => ⟨h, hb c (.head _)⟩
      · exact hc a ha
    next hlt =>
      have hbc := Nat.lt_of_not_le hlt
      refine List.pairwise_cons.mpr ⟨fun a ha => .inl ?_, hl⟩
      rcases List.mem_cons.mp ha with rfl | ha
      · exact hbc
      · exact (hc a ha).elim hbc.trans fun h => h.1 ▸ hbc

/-- Insertion of ascending numbers one after another. -/
theorem foldl_insertByPriority {prio : Branch → Nat} {l q : List Branch} (hl : l.Pairwise (· < ·))
    (hq : q.Pairwise (PriorityThenNumber prio)) (hlt : ∀ c ∈ q, ∀ b ∈ l, c < b) :
    (l.foldl (fun q b => insertByPriority prio b q) q).Perm (l ++ q)
      ∧ (l.foldl (fun q b => insertByPriority prio b q) q).Pairwise (PriorityThenNumber prio) := by
  induction l generalizing q with
  | nil => exact ⟨.refl _, hq⟩
  | cons b l ih =>
    obtain ⟨hb, hl⟩ := List.pairwise_cons.mp hl
    have hrest := ih hl (insertByPriority_pairwise_number hq fun c hc => hlt c hc b (.head _)) fun c hc d hd => by
      rcases mem_insertByPriority.mp hc with rfl | hc
      · exact hb d hd
      · exact hlt c hc d (.tail _ hd)
    refine ⟨hrest.1.trans ?_, hrest.2⟩
    exact ((insertByPriority_perm prio b q).append_left l).trans List.perm_middle

/-- Branches that join the queue one after another change branches and queue alone. -/
theorem State.foldl_joinQueue_eq (s : State) (l : List Branch) :
    l.foldl State.joinQueue s =
      { s with
        branches := (l.foldl State.joinQueue s).branches
        arbiter.queue := l.foldl (fun q b => insertByPriority s.priority b q) s.arbiter.queue } := by
  induction l generalizing s with
  | nil => rfl
  | cons b l ih =>
    have hp : (s.joinQueue b).priority = s.priority := funext (SequencerChange.joinQueue s b).priority
    rw [List.foldl_cons, ih, hp]
    rfl

/-- Settles O13: RESTART clears the part, and then the auto-start branches join the empty queue in ascending number. -/
theorem restartRebuildsTheQueue : Obligations.RestartRebuildsTheQueue := by
  intro s h
  refine ⟨fun he => exec_of_taken h (if_pos he), fun he => ⟨s.takeRestart.withResult .done, exec_of_taken h ?_, ?_⟩⟩
  · exact if_neg (by simp [he])
  have hfold := State.foldl_joinQueue_eq s.restartCleared s.autoStartBranches
  rw [← State.takeRestart_eq] at hfold
  have hprio : s.restartCleared.priority = s.priority := funext fun b =>
    congrArg (fun p : Profile => p.priority.toNat) (s.restartCleared_profile b)
  obtain ⟨hperm, hsorted⟩ := foldl_insertByPriority (prio := s.priority) (l := s.autoStartBranches) (q := [])
    (allBranches_pairwise_lt.filter _) .nil (by simp)
  have hqueue : s.takeRestart.arbiter.queue =
      s.autoStartBranches.foldl (fun q b => insertByPriority s.priority b q) [] := by
    rw [hfold, ← hprio]
    rfl
  rw [← hqueue] at hperm hsorted
  rw [List.append_nil] at hperm
  have hlen : s.takeRestart.arbiter.queue.length = s.autoStartCount :=
    hperm.length_eq.trans List.countP_eq_length_filter.symm
  refine ⟨fun b => ?_, hperm, hsorted, ?_, ?_, ?_, ?_, ?_, ?_, ?_, ?_, ?_, ?_, ?_⟩
  · rw [State.br_withResult, State.br_takeRestart, BranchRec.toOff_eq]
  · show s.takeRestart.arbiter =
      { s.arbiter with queue := s.takeRestart.arbiter.queue, inrushCount := 0, staggerTimer := none }
    rw [hfold]
    rfl
  · exact (congrArg State.load hfold :)
  · exact (congrArg State.digest hfold :)
  · exact (congrArg State.sig hfold :)
  · exact (congrArg State.irq hfold :)
  · show s.takeRestart.log = s.log.take _ _
    rw [State.withResult_arbiter, hlen]
    exact (congrArg State.log hfold :)
  · exact congrArg (fun w : Window => { w with result := .done }) s.takeRestart_window
  · exact s.takeRestart_time
  · exact (congrArg State.pgqual hfold :)
  · exact (congrArg State.estop hfold :)
  · exact (congrArg State.pins hfold :)

/-- Settles O14. -/
theorem resetAssertionOpensEverything : Obligations.ResetAssertionOpensEverything := by
  intro s h
  refine ⟨_, exec_running h .resetAssertion, rfl, fun b => rfl, rfl, fun b => ?_, rfl, rfl, rfl, rfl, rfl, rfl, rfl,
    rfl, rfl, rfl, fun loc => State.readLocation_held rfl loc⟩
  exact State.br_holdReset _ b

/-- Settles O16. -/
theorem hardwareResetTakesThePins : Obligations.HardwareResetTakesThePins := by
  intro s
  refine ⟨s.releaseReset, rfl, rfl, fun b => State.br_releaseReset s b, LoadManager.released_eq s.pins, rfl, rfl, rfl,
    rfl, rfl, rfl, rfl, rfl, rfl, fun b => ?_, rfl⟩
  rw [State.onOut, State.br_releaseReset]
  rfl

/-! ### The part's own time (R1, R2, R5, R7, R77; log 2, log 4) -/

section Time

variable {s : State}

theorem step_of_pending_nil (h : s.pending = []) : step s = .next s.idle := by
  rw [step, h]

/-- Without a due grant a period of CLKIN passes. -/
theorem State.idle_of_no_grant (hp : s.pending = []) (hclk : s.clocked) (hg : s.grantCondition = false) :
    s.idle = State.clockPeriod { s with grantWait := 0 } := by
  rcases State.idle_cases hp with ⟨hstop, -⟩ | ⟨-, -, e⟩ | ⟨-, hg', -⟩ | ⟨-, hg', -, -⟩
  · rcases hstop with h | h
    · exact nomatch hclk.1.symm.trans h
    · exact nomatch hclk.2.symm.trans h
  · exact e
  · exact nomatch hg.symm.trans hg'
  · exact nomatch hg.symm.trans hg'

/-- A due grant is taken, or a period of CLKIN passes if it may still wait. -/
theorem State.idle_of_grant (hp : s.pending = []) (hclk : s.clocked) (hg : s.grantCondition = true) :
    s.idle = s.withGrant ∨ (s.grantWait < Config.grantTicks ∧ s.idle = s.deferGrant) := by
  rcases State.idle_cases hp with ⟨hstop, -⟩ | ⟨-, hg', -⟩ | ⟨-, -, e⟩ | ⟨-, -, hwait, e⟩
  · rcases hstop with h | h
    · exact nomatch hclk.1.symm.trans h
    · exact nomatch hclk.2.symm.trans h
  · exact nomatch hg.symm.trans hg'
  · exact .inl e
  · exact .inr ⟨hwait, e⟩

theorem State.clockPeriod_inside (h : s.time.divider + 1 < s.time.tickLength) :
    s.clockPeriod = { s with time.divider := s.time.divider + 1 } := by
  rw [State.clockPeriod_eq, if_neg (Nat.not_le.mpr h)]

theorem State.clockPeriod_last (h : s.time.tickLength ≤ s.time.divider + 1) : s.clockPeriod = s.endTick := by
  rw [State.clockPeriod_eq, if_pos h]

/-- The position within the tick decides what a deferred grant sees (R79, log 4). -/
theorem State.deferGrant_eq (s : State) :
    s.deferGrant =
      State.clockPeriod
        { s with
          free := s.free + 1
          grantWait := if s.time.tickLength ≤ s.time.divider + 1 then s.grantWait + 1 else s.grantWait } := by
  simp [State.deferGrant, Timebase.lastPeriod]

end Time

/-- Settles O3. -/
theorem idleStepPassesOneClkinPeriod : Obligations.IdleStepPassesOneClkinPeriod := by
  intro s hp
  rw [step_of_pending_nil hp]
  refine ⟨fun hstop => ?_, fun hclk hg hin => ?_, fun hclk hg _ hin => ?_, fun hclk hg hwait => ?_⟩
  · exact congrArg Host.Outcome.next (State.whenClocked_stopped hstop _)
  · rw [State.idle_of_no_grant hp hclk hg]
    exact congrArg Host.Outcome.next (State.clockPeriod_inside (s := { s with grantWait := 0 }) hin)
  · refine (State.idle_of_grant hp hclk hg).imp (congrArg _) fun ⟨_, e⟩ => ?_
    rw [e, State.deferGrant_eq, if_neg (Nat.not_le.mpr hin)]
    exact congrArg Host.Outcome.next (State.clockPeriod_inside (s := { s with free := s.free + 1 }) hin)
  · rcases State.idle_of_grant hp hclk hg with e | ⟨hlt, -⟩
    · rw [e]
    · exact absurd hwait (Nat.not_le.mpr hlt)

/-- Settles O4. -/
theorem tickEndCountsDownAndQueuesDueEvents : Obligations.TickEndCountsDownAndQueuesDueEvents := by
  intro s hp hclk hlast
  rw [step_of_pending_nil hp]
  refine ⟨fun hg => ?_, fun hg _ => ?_⟩
  · rw [State.idle_of_no_grant hp hclk hg, State.clockPeriod_last (s := { s with grantWait := 0 }) hlast]
    exact ⟨_, rfl, State.endTick_effect (s := { s with grantWait := 0 }) hp, rfl⟩
  · refine (State.idle_of_grant hp hclk hg).imp (congrArg _) fun ⟨_, e⟩ => ?_
    rw [e, State.deferGrant_eq, if_pos hlast,
      State.clockPeriod_last (s := { s with free := s.free + 1, grantWait := s.grantWait + 1 }) hlast]
    exact ⟨_, rfl, State.endTick_effect (s := { s with free := s.free + 1, grantWait := s.grantWait + 1 }) hp, rfl⟩

/-! ### Bus accesses (R157, R158, R164, R166) -/

section Bus

variable {loc : Loc} {v : Byte} {f : ProfileField}

theorem eq_ofNat_of_toNat_eq {w n : Nat} {x : BitVec w} (h : x.toNat = n) : x = BitVec.ofNat w n := by
  rw [← h, BitVec.ofNat_toNat, BitVec.setWidth_eq]

theorem profileLocation_of_profileFieldAt : ∀ {loc : Loc} {f : ProfileField},
    profileFieldAt loc = some f → profileLocation f = loc := by decide

theorem profileFieldAt_profileLocation (f : ProfileField) : profileFieldAt (profileLocation f) = some f := by
  cases f <;> rfl

/-- A location without a row of its own is none of those that `writeCommand` tells apart. -/
theorem hasOwnWriteRow_eq_false_iff : ∀ {loc : Loc}, hasOwnWriteRow loc = false ↔
    profileFieldAt loc = none ∧ loc.toNat ≠ 0x00 ∧ loc.toNat ≠ 0x10 ∧ loc.toNat ≠ 0x11 ∧ loc.toNat ≠ 0x18
      ∧ loc.toNat ≠ 0x27 ∧ loc.toNat ≠ 0x28 := by decide

theorem writeCommand_of_profile (h : profileFieldAt loc = some f) : writeCommand loc v = .profileWrite f v := by
  rw [writeCommand, h]

theorem codeCommand_wellFormed (v : Byte) : (codeCommand v).wellFormed = true := by
  unfold codeCommand
  split
  case h_10 => simp_all [Instr.wellFormed, isCommandCode]
  all_goals rfl

/-- A code is spelled by the write of it to CMD. -/
theorem busSpelling_codeCommand (v : Byte) : busSpelling (codeCommand v) = some (.write 0x00 v) := by
  unfold codeCommand
  split
  case h_10 => rfl
  all_goals
    next h =>
      rw [eq_ofNat_of_toNat_eq h]
      rfl

/-- A code that is no command code is UNKNOWN_COMMAND of it. -/
theorem codeCommand_of_not_isCommandCode (h : isCommandCode v = false) : codeCommand v = .unknownCommand v := by
  unfold codeCommand
  split
  case h_10 => rfl
  all_goals next hv => simp [isCommandCode, hv] at h

/-- A location without a row of its own is written by REGISTER_WRITE. -/
theorem writeCommand_of_no_row (h : hasOwnWriteRow loc = false) : writeCommand loc v = .registerWrite loc v := by
  obtain ⟨hfield, h00, h10, h11, h18, h27, h28⟩ := hasOwnWriteRow_eq_false_iff.mp h
  simp [writeCommand, hfield]

/-- Every write is a well-formed command that is spelled by this very write. -/
theorem writeCommand_spelled (loc : Loc) (v : Byte) :
    (writeCommand loc v).wellFormed = true ∧ busSpelling (writeCommand loc v) = some (.write loc v) := by
  cases hrow : hasOwnWriteRow loc with
  | false =>
    rw [writeCommand_of_no_row hrow]
    exact ⟨by simp [Instr.wellFormed, hrow], rfl⟩
  | true =>
    cases hfield : profileFieldAt loc with
    | some f =>
      rw [writeCommand_of_profile hfield, ← profileLocation_of_profileFieldAt hfield]
      exact ⟨rfl, rfl⟩
    | none =>
      unfold writeCommand
      rw [hfield]
      dsimp only
      split
      case h_7 h00 h10 h11 h18 h27 h28 =>
        exact nomatch hrow.symm.trans (hasOwnWriteRow_eq_false_iff.mpr ⟨hfield, h00, h10, h11, h18, h27, h28⟩)
      case h_1 h =>
        rw [eq_ofNat_of_toNat_eq h]
        exact ⟨codeCommand_wellFormed v, busSpelling_codeCommand v⟩
      all_goals
        next h =>
          rw [eq_ofNat_of_toNat_eq h]
          exact ⟨rfl, rfl⟩

/-- A well-formed command that a bus access spells is the command of that access. -/
theorem accessCommand_of_busSpelling {c : Instr} {a : BusAccess} (hc : c.wellFormed = true)
    (ha : busSpelling c = some a) : accessCommand a = some c := by
  cases c with
  | profileWrite f v =>
    obtain rfl := Option.some.inj ha
    exact congrArg some (writeCommand_of_profile (profileFieldAt_profileLocation f))
  | registerWrite loc v =>
    obtain rfl := Option.some.inj ha
    exact congrArg some (writeCommand_of_no_row (by simpa [Instr.wellFormed] using hc))
  | unknownCommand code =>
    obtain rfl := Option.some.inj ha
    exact congrArg some (codeCommand_of_not_isCommandCode (by simpa [Instr.wellFormed] using hc))
  | close | openBranch | rearm | allOff | restart | sign | digestClr | logAdv | logClr | msloRead | logdataRead
  | prescaleWrite _ | slotsWrite _ | irqpendAcknowledge _ | irqenWrite _ | logthrWrite _ =>
    obtain rfl := Option.some.inj ha
    rfl
  | _ => exact nomatch ha

end Bus

/-- Settles O5. -/
theorem busAccessesAndCommandsAgree : Obligations.BusAccessesAndCommandsAgree :=
  ⟨fun loc v => ⟨(writeCommand_spelled loc v).1, (writeCommand_spelled loc v).2, rfl⟩,
    fun _ _ => accessCommand_of_busSpelling⟩

/-- A code runs as its own command. -/
theorem exec_codeCommand_eq (s : State) (v : Byte) : exec (codeCommand v) s = exec (.unknownCommand v) s := by
  unfold codeCommand
  split
  case h_10 => rfl
  all_goals
    next h =>
      rw [eq_ofNat_of_toNat_eq h]
      rfl

/-- A write runs as the same write of REGISTER_WRITE. -/
theorem exec_writeCommand_eq (s : State) (loc : Loc) (v : Byte) :
    exec (writeCommand loc v) s = exec (.registerWrite loc v) s := by
  cases hfield : profileFieldAt loc with
  | some f =>
    rw [writeCommand_of_profile hfield, ← profileLocation_of_profileFieldAt hfield]
    cases f <;> rfl
  | none =>
    unfold writeCommand
    rw [hfield]
    dsimp only
    split
    case h_7 => rfl
    case h_1 h =>
      rw [eq_ofNat_of_toNat_eq h]
      exact exec_codeCommand_eq s v
    all_goals
      next h =>
        rw [eq_ofNat_of_toNat_eq h]
        rfl

/-- Settles O6. -/
theorem everyWriteSpellingActsAlike : Obligations.EveryWriteSpellingActsAlike := fun s v =>
  ⟨fun loc => exec_writeCommand_eq s loc v, exec_codeCommand_eq s v⟩

/-! ### The lines of the bus (R157, R158; log 18) -/

section Lines

variable {before after : BusPins}

/-- With CS# asserted the rising edge of WR# is a write, and the assertion of RD# with WR# released a read. -/
theorem BusPins.accessTaken_write (hb : before.wr = true) (ha : after.wr = false) (hcs : after.cs = true) :
    before.accessTaken after = some (.write after.addr after.data) := by
  simp [BusPins.accessTaken, hb, ha, hcs]

theorem BusPins.accessTaken_read (hb : before.wr = false) (ha : after.wr = false) (hrd : before.rd = false)
    (hrd' : after.rd = true) (hcs : after.cs = true) : before.accessTaken after = some (.read after.addr) := by
  simp [BusPins.accessTaken, hb, ha, hrd, hrd', hcs]

theorem BusPins.accessTaken_deselected (hcs : after.cs = false) : before.accessTaken after = none := by
  simp [BusPins.accessTaken, hcs]

theorem BusPins.accessTaken_writing (ha : after.wr = true) : before.accessTaken after = none := by
  simp [BusPins.accessTaken, ha]

theorem BusPins.accessTaken_reading (hb : before.wr = false) (hrd : before.rd = true) :
    before.accessTaken after = none := by
  simp [BusPins.accessTaken, hb, hrd]

/-- A read is taken with RD# asserted and WR# released. -/
theorem BusPins.strobes_of_accessTaken_read {loc : Loc} (h : before.accessTaken after = some (.read loc)) :
    after.rd = true ∧ after.wr = false := by
  unfold BusPins.accessTaken at h
  split at h
  · cases h
  · split at h
    next hc =>
      simp only [Bool.and_eq_true, Bool.not_eq_true'] at hc
      obtain ⟨⟨⟨⟨-, hrd⟩, -⟩, hwr⟩, -⟩ := hc
      exact ⟨hrd, hwr⟩
    next => cases h

theorem BusPins.drives_of_read {driving : Bool} {loc : Loc} (h : before.accessTaken after = some (.read loc)) :
    before.drives driving after = true := by
  rw [BusPins.drives, h]

theorem BusPins.drives_of_not_read {driving : Bool} (h : ∀ loc, before.accessTaken after ≠ some (.read loc)) :
    before.drives driving after = (driving && after.rd && !after.wr) := by
  unfold BusPins.drives
  split
  next loc hr => exact absurd hr (h loc)
  next => rfl

/-- The drive ends with RD# released or WR# asserted. -/
theorem BusPins.drives_ended {driving : Bool} (h : after.rd = false ∨ after.wr = true) :
    before.drives driving after = false := by
  rw [BusPins.drives_of_not_read fun loc hr => ?_]
  · rcases h with h | h <;> simp [h]
  · obtain ⟨hrd, hwr⟩ := BusPins.strobes_of_accessTaken_read hr
    rcases h with h | h
    · exact nomatch hrd.symm.trans h
    · exact nomatch hwr.symm.trans h

/-- While RD# stays asserted and WR# released the drive goes on. -/
theorem BusPins.drives_held {driving : Bool} (hb : before.rd = true) (ha : after.rd = true) (hwr : after.wr = false) :
    before.drives driving after = driving := by
  rw [BusPins.drives_of_not_read fun loc hr => ?_]
  · simp [ha, hwr]
  · unfold BusPins.accessTaken at hr
    split at hr
    · cases hr
    · simp [hb] at hr

end Lines

/-- A change of the bus lines that is an access takes it, with the lines and the drive as they then are. -/
theorem State.takeBusChange_of_access {s : State} {lines : BusPins} {a : BusAccess}
    (h : s.pins.bus.accessTaken lines = some a) :
    s.takeBusChange lines =
      State.takeAccess { s with pins.bus := lines, window.driving := s.pins.bus.drives s.window.driving lines } a := by
  rw [State.takeBusChange, h]

theorem State.takeBusChange_of_none {s : State} {lines : BusPins} (h : s.pins.bus.accessTaken lines = none) :
    s.takeBusChange lines =
      .next { s with pins.bus := lines, window.driving := s.pins.bus.drives s.window.driving lines } := by
  rw [State.takeBusChange, h]

/-- A read without a side effect has no command (R157). -/
theorem accessCommand_read_eq_none {loc : Loc} (h20 : loc.toNat ≠ 0x20) (h29 : loc.toNat ≠ 0x29) :
    accessCommand (.read loc) = none := by
  dsimp only [accessCommand]
  split
  next h => exact absurd h h20
  next h => exact absurd h h29
  next => rfl

/-- Settles O7. -/
theorem busStrobesTakeOneAccess : Obligations.BusStrobesTakeOneAccess := by
  refine ⟨fun before after => ⟨BusPins.accessTaken_write, BusPins.accessTaken_read, BusPins.accessTaken_deselected,
    BusPins.accessTaken_writing, BusPins.accessTaken_reading, fun driving =>
      ⟨BusPins.drives_ended, fun _ => BusPins.drives_of_read, BusPins.drives_held⟩⟩, fun s lines => ?_,
    fun c s t hm hl h => ?_⟩
  · refine ⟨State.takeBusChange_of_none, fun a c ha hc => ?_, fun loc ha h20 h29 => ⟨?_, ?_⟩,
      fun hrd hwr hrd' hwr' => ?_⟩
    · rw [State.takeBusChange_of_access ha, State.takeAccess_command _ hc]
    · rw [State.takeBusChange_of_access ha, State.takeAccess_plain_read _ (accessCommand_read_eq_none h20 h29),
        State.readLocation_bus]
    · exact if_pos (BusPins.drives_of_read ha)
    · refine ⟨_, State.takeBusChange_of_none (BusPins.accessTaken_reading hwr hrd), ?_⟩
      show (if s.pins.bus.drives s.window.driving lines then some s.window.dataOut else none) = s.dataBus
      rw [BusPins.drives_held hrd hrd' hwr']
      rfl
  · obtain ⟨hout, hdrive, hbus⟩ := exec_drive h hm hl
    exact ⟨by rw [State.dataBus, State.dataBus, hout, hdrive], hout, hdrive, hbus⟩

/-! ### Event log, digest, interrupts (R126, R132, R141 to R149, R164) -/

/-! #### Codes fit a byte (R165 to R169) -/

theorem toNat_ofNat_byte {n : Nat} (h : n < 256) : (BitVec.ofNat 8 n).toNat = n :=
  (BitVec.toNat_ofNat n 8).trans (Nat.mod_eq_of_lt h)

theorem RecordKind.code_lt (k : RecordKind) : k.code < 256 := by cases k <;> decide

theorem TripCause.code_lt (c : TripCause) : c.code < 256 := by cases c <;> decide

theorem branchCode_le (b : Option Branch) : branchCode b ≤ 8 := by
  cases b with
  | none => exact Nat.zero_le 8
  | some b => exact b.isLt

theorem branchCode_lt (b : Option Branch) : branchCode b < 256 := (branchCode_le b).trans_lt (by decide)

theorem recordCause_elim_lt (c : Option RecordCause) : c.elim 0 RecordCause.code < 256 := by
  rcases c with _ | ⟨c⟩ | _ | _
  · decide
  · exact c.code_lt
  · decide
  · decide

theorem phase_elim_lt (p : Option Phase) : p.elim 0 Phase.code < 256 := by
  rcases p with _ | _ | _ <;> decide

/-- Settles O17. -/
theorem logTakesOffersInOrder : Obligations.LogTakesOffersInOrder := by
  refine fun l o now => ⟨fun h => ?_, fun h => ?_⟩
  · rw [EventLog.take_room h]
    simp only [List.isEmpty_iff]
  · have hlost : (if l.lost = 255 then 255 else l.lost + 1) = BitVec.ofNat 8 (min 255 (l.lost.toNat + 1)) := by
      refine BitVec.eq_of_toNat_eq ?_
      split <;> bv_omega
    rw [EventLog.take_full h, hlost]

/-- Settles O19. -/
theorem logdataReadReturnsTheHeadFrame : Obligations.LogdataReadReturnsTheHeadFrame := by
  intro s h
  have hidx : s.log.idx + 1 = if s.log.idx = 8 then 0 else s.log.idx + 1 := by
    split
    next h8 => rw [h8]; rfl
    next => rfl
  refine ⟨s.log.headByte, exec_of_taken h ?_, fun hl => ?_, fun r rest hl => ?_⟩
  · rw [← hidx]
    rfl
  · rw [EventLog.headByte, hl]
  · have hd : s.log.headByte = r.frameByte s.log.idx := by rw [EventLog.headByte, hl]
    rw [hd]
    refine ⟨fun hi => ?_, fun hi => ?_, fun hi => ?_, fun hi => ?_, fun hi => ?_, fun hi => ?_, fun hi => ?_,
      fun hi => ?_, fun hi => ?_⟩ <;> rw [hi]
    · rfl
    · exact toNat_ofNat_byte (RecordKind.code_lt _)
    · exact toNat_ofNat_byte (branchCode_lt _)
    · exact toNat_ofNat_byte (recordCause_elim_lt _)
    · exact BitVec.toNat_ofNat _ 8
    · exact toNat_ofNat_byte (phase_elim_lt _)
    · exact BitVec.toNat_setWidth 8 r.time
    · exact toNat_highByte r.time
    · rfl

theorem State.writeCmd_of_not_isCommandCode {s : State} {code : Byte} (h : isCommandCode code = false) :
    s.writeCmd code = s.withResult .unknown := by
  unfold State.writeCmd
  split
  case h_10 => rfl
  all_goals next hv => simp [isCommandCode, hv] at h

/-- Settles O20. -/
theorem digestClrAndUnknownCode : Obligations.DigestClrAndUnknownCode := by
  refine fun s h => ⟨exec_running h .digestClr, fun code hcode => ?_⟩
  exact exec_of_taken h (State.writeCmd_of_not_isCommandCode (by simpa [isCommandCode] using hcode))

/-! #### The trip digest (R141) -/

section DigestCode

variable {d : Digest} {b c : Branch}

theorem Digest.members_nodup (d : Digest) : d.members.Nodup := (List.nodup_finRange 8).filter _

theorem Digest.code_eq_zero (h : ∀ b : Branch, d.trips[b] = false) : d.code = 0 := by
  have hm : d.members = [] := List.eq_nil_iff_forall_not_mem.mpr fun b hb =>
    nomatch (h b).symm.trans (Digest.mem_members.mp hb)
  rw [Digest.code, hm]

theorem Digest.code_eq_number (h : ∀ c : Branch, d.trips[c] = true ↔ c = b) : d.code = b.val + 1 := by
  have hm : d.members = [b] := List.perm_singleton.mp <|
    (List.perm_ext_iff_of_nodup d.members_nodup (List.nodup_singleton b)).mpr fun c => by
      rw [Digest.mem_members, h, List.mem_singleton]
  rw [Digest.code, hm]
  rfl

theorem Digest.code_eq_fifteen (hbc : b ≠ c) (hb : d.trips[b] = true) (hc : d.trips[c] = true) : d.code = 15 := by
  have hb := Digest.mem_members.mpr hb
  have hc := Digest.mem_members.mpr hc
  unfold Digest.code
  split
  next hm => simp [hm] at hb
  next e hm =>
    rw [hm, List.mem_singleton] at hb hc
    exact absurd (hb.trans hc.symm) hbc
  next => rfl

theorem Digest.code_le (d : Digest) : d.code ≤ 15 := by
  unfold Digest.code
  split
  · decide
  next b _ => exact Nat.le_trans b.isLt (by decide)
  · decide

end DigestCode

/-- The sum of the weights of bits is the number with these bits. -/
theorem sum_bitAt {n : Nat} (f : Fin n → Bool) :
    ((List.finRange n).map fun i => bitAt (f i) i.val).sum = Nat.ofBits f := by
  induction n with
  | zero => rfl
  | succ n ih =>
    have hdouble : ∀ i : Fin n, bitAt (f i.succ) i.succ.val = 2 * bitAt (f i.succ) i.val := fun i => by
      unfold bitAt
      split
      · rw [Fin.val_succ, Nat.pow_succ, Nat.mul_comm]
      · rfl
    have hzero : bitAt (f 0) (0 : Fin (n + 1)).val = (f 0).toNat := by cases f 0 <;> rfl
    rw [List.finRange_succ, List.map_cons, List.sum_cons, List.map_map, Nat.ofBits_succ, ← ih, hzero]
    simp only [Function.comp_def, hdouble, List.sum_map_mul_left]
    omega

theorem Digest.getLsbD_tripset (d : Digest) (b : Branch) : d.tripset.getLsbD b.val = d.trips[b] := by
  have hsum : (allBranches.map fun b => bitAt d.trips[b] b.val).sum = Nat.ofBits fun b : Branch => d.trips[b] :=
    sum_bitAt _
  rw [Digest.tripset, hsum, BitVec.getLsbD_ofNat, Nat.testBit_ofBits_lt _ _ b.isLt]
  simp

/-- Settles O21. -/
theorem digestCodeNamesTheTrippedBranches : Obligations.DigestCodeNamesTheTrippedBranches := by
  intro s h
  have hn : ¬s.pins.reset = true := by simp [show s.pins.reset = false from h]
  have hfirst : branchCode s.digest.first = s.digest.first.elim 0 fun b => b.val + 1 := by
    cases s.digest.first <;> rfl
  refine ⟨Digest.code_eq_zero, fun b => Digest.code_eq_number, fun b c => Digest.code_eq_fifteen, ?_, fun b => ?_⟩
  · have hread : s.readLocation 0x22 = s.digest.read := if_neg hn
    have := s.digest.code_le
    have := branchCode_le s.digest.first
    rw [hread, Digest.read, ← hfirst, toNat_ofNat_byte (by omega)]
  · have hread : s.readLocation 0x23 = s.digest.tripset := if_neg hn
    rw [hread, Digest.getLsbD_tripset]

/-! #### Outputs and interrupts (R145 to R148, R167) -/

theorem bitAt_eq (b : Bool) (k : Nat) : bitAt b k = 2 ^ k * b.toNat := by
  cases b <;> simp [bitAt]

/-- Six bits packed into a byte. -/
theorem toNat_ofNat_sixBits (b0 b1 b2 b3 b4 b5 : Bool) :
    (BitVec.ofNat 8 (bitAt b0 0 + bitAt b1 1 + bitAt b2 2 + bitAt b3 3 + bitAt b4 4 + bitAt b5 5)).toNat =
      b0.toNat + 2 * b1.toNat + 4 * b2.toNat + 8 * b3.toNat + 16 * b4.toNat + 32 * b5.toNat := by
  have := b0.toNat_le
  have := b1.toNat_le
  have := b2.toNat_le
  have := b3.toNat_le
  have := b4.toNat_le
  have := b5.toNat_le
  simp only [bitAt_eq]
  rw [toNat_ofNat_byte (by omega)]
  omega

/-- Settles O22. -/
theorem outputsFollowTheState : Obligations.OutputsFollowTheState := by
  refine fun s => ⟨?_, fun b => State.onOut_eq_true_iff, fun h => ?_⟩
  · simp only [State.intOut, State.enabledActive, EventLog.condition, Bool.and_eq_true, Bool.or_eq_true,
      Bool.not_eq_true', decide_eq_true_eq, or_assoc]
  · have hn : ¬s.pins.reset = true := by simp [show s.pins.reset = false from h]
    have h0E : s.readLocation 0x0E = s.bpins s.window.bptr := if_neg hn
    have h27 : s.readLocation 0x27 = s.irqpend := if_neg hn
    have h28 : s.readLocation 0x28 = s.irq.enable.read := if_neg hn
    have hflight : (s.inFlightFlag s.window.bptr).toNat = if s.load.inFlight = some s.window.bptr then 1 else 0 := by
      unfold State.inFlightFlag
      split <;> simp [*]
    have hcond : s.log.condition.toNat = if s.log.thr.toNat ≤ s.log.records.length then 1 else 0 := by
      unfold EventLog.condition
      split <;> simp [*]
    dsimp only
    rw [h0E, h27, h28, ← hflight, ← hcond]
    refine ⟨?_, toNat_ofNat_sixBits .., toNat_ofNat_sixBits ..⟩
    exact (congrArg BitVec.toNat (congrArg (BitVec.ofNat 8) (Nat.add_zero _).symm)).trans
      (toNat_ofNat_sixBits _ _ _ _ _ false)

theorem EnableSet.read_named : ∀ v : Byte, v.toNat < 64 → (EnableSet.named v).read = v := by decide

theorem sourcesInRange_iff {v : Byte} : sourcesInRange v = true ↔ v.toNat < 64 := by
  rw [sourcesInRange, decide_eq_true_eq]
  omega

/-- Settles O23. -/
theorem interruptWritesNameSources : Obligations.InterruptWritesNameSources := by
  refine fun s v h => ⟨fun hv => ?_, fun hv => ?_⟩
  · have hr : ¬sourcesInRange v = true := fun hr => absurd (sourcesInRange_iff.mp hr) (Nat.not_lt.mpr hv)
    exact ⟨exec_of_taken h (if_neg hr), exec_of_taken h (if_neg hr)⟩
  · have hr := sourcesInRange_iff.mpr hv
    exact ⟨exec_of_taken h (if_pos hr), _, exec_of_taken h (if_pos hr), EnableSet.read_named v hv⟩

/-! ### Writes and reads of settings (R4, R10 to R13, R53, R76, R81, R109, R137) -/

section Settings

variable {s : State} {f : ProfileField} {v : Byte} {b : Branch}

/-- With RESET# released a location reads its item. -/
theorem State.reset_ne_true (h : s.running) : ¬s.pins.reset = true := by simp [show s.pins.reset = false from h]

theorem options_eq_bits : ∀ v : Byte, v.toNat ≤ 3 →
    BitVec.ofNat 8 (bitAt (v.getLsbD 0) 0 + bitAt (v.getLsbD 1) 1) = v := by decide

/-- A value in range reads back. -/
theorem Profile.fetch_store (p : Profile) (hv : fieldInRange f v = true) : (p.store f v).fetch f = v := by
  cases f with
  | options => exact options_eq_bits v (of_decide_eq_true hv)
  | _ => rfl

theorem Profile.fetch_store_of_ne (p : Profile) {g : ProfileField} (hg : g ≠ f) :
    (p.store f v).fetch g = p.fetch g := by
  cases f <;> cases g <;> simp [Profile.store, Profile.fetch] at hg ⊢

/-- OPTIONS reads the escalation flag in bit 0 and the auto-start flag in bit 1 (R11). -/
theorem Profile.toNat_fetch_options (p : Profile) :
    (p.fetch .options).toNat = p.escalation.toNat + 2 * p.autoStart.toNat := by
  unfold Profile.fetch
  cases p.escalation <;> cases p.autoStart <;> rfl

theorem State.readLocation_profile (h : s.running) (g : ProfileField) :
    s.readLocation (profileLocation g) = (s.br s.window.bptr).profile.fetch g := by
  cases g <;> exact if_neg (State.reset_ne_true h)

/-- The notice of a profile write to the signature engine (R153). -/
theorem State.profileNotice_eq (s : State) (b : Branch) :
    s.profileNotice b =
      if s.sig.state = .running ∧ s.sig.first ≤ b ∧ b ≤ s.sig.last then
        { s with sig := { s.sig with state := .stale, progress := none, timer := none }, irq.pending.sign := true }
      else s := rfl

theorem State.writeProfile_taken (hoff : (s.br s.window.bptr).state = .off) (hv : fieldInRange f v = true) :
    s.writeProfile f v =
      ((s.updBr s.window.bptr fun r => { r with profile := r.profile.store f v }).profileNotice
        s.window.bptr).withWstat .ok := by
  unfold State.writeProfile
  dsimp only
  rw [if_neg (not_not.mpr hoff), if_pos hv]

end Settings

/-- Settles O25. -/
theorem profileWriteStoresOnlyInOff : Obligations.ProfileWriteStoresOnlyInOff := by
  intro s f v h b legal
  have hlegal : legal ↔ fieldInRange f v = true := by
    cases f <;> simp [legal, fieldInRange, Nat.one_le_iff_ne_zero]
  refine ⟨fun hoff => exec_of_taken h (if_pos hoff), fun hoff hv => exec_of_taken h ?_, fun hoff hv => ?_, ?_⟩
  · exact (if_neg (not_not.mpr hoff)).trans (if_neg fun hr => hv (hlegal.mpr hr))
  · have hv := hlegal.mp hv
    refine ⟨_, Profile.fetch_store _ hv, fun g hg => Profile.fetch_store_of_ne _ hg, exec_of_taken h ?_⟩
    refine (State.writeProfile_taken hoff hv).trans ?_
    rw [State.profileNotice_eq]
    exact apply_ite (State.withWstat · .ok) _ _ _
  · have read := State.readLocation_profile h
    refine ⟨read .priority, read .budget, read .deadbase, ?_, read .ocqual, read .blank, read .rise, read .settle, read⟩
    exact (congrArg BitVec.toNat (read .options)).trans (Profile.toNat_fetch_options _)

/-- Some branch is active unless every one is OFF or locked out (R4, R76). -/
theorem State.someActive_eq_false_iff {s : State} :
    s.someActive = false ↔ ∀ b, (s.br b).state = .off ∨ (s.br b).state = .lockout := by
  have hidle : ∀ st : BranchState, st.active = false ↔ st = .off ∨ st = .lockout := fun st => by
    cases st <;> simp [BranchState.active]
  simp [State.someActive, hidle]

theorem not_decide_eq_true {p : Prop} [Decidable p] : (!decide p) = true ↔ ¬p := by simp

/-- Settles O26. -/
theorem prescaleAndSlotsNeedEveryBranchIdle : Obligations.PrescaleAndSlotsNeedEveryBranchIdle := by
  intro s v h quiet
  have hn := State.reset_ne_true h
  have hactive : ¬quiet → s.someActive = true := fun hq =>
    eq_true_of_ne_false fun hf => hq (State.someActive_eq_false_iff.mp hf)
  have hquiet : quiet → ¬s.someActive = true := fun hq => by simp [State.someActive_eq_false_iff.mpr hq]
  refine ⟨fun hv => exec_of_taken h ?_, fun hv hq => exec_of_taken h ?_, fun hv hq => exec_of_taken h ?_,
    fun hv => exec_of_taken h ?_, fun hv hq => exec_of_taken h ?_, fun hv hq => exec_of_taken h ?_, if_neg hn,
    if_neg hn⟩
  · exact if_pos (not_decide_eq_true.mpr hv)
  · exact (if_neg fun hr => not_decide_eq_true.mp hr hv).trans (if_pos (hactive hq))
  · exact (if_neg fun hr => not_decide_eq_true.mp hr hv).trans (if_neg (hquiet hq))
  · exact if_pos (not_decide_eq_true.mpr hv)
  · exact (if_neg fun hr => not_decide_eq_true.mp hr hv).trans (if_pos (hactive hq))
  · exact (if_neg fun hr => not_decide_eq_true.mp hr hv).trans (if_neg (hquiet hq))

/-- Settles O27. -/
theorem logthrWriteMovesTheCondition : Obligations.LogthrWriteMovesTheCondition := by
  refine fun s v h => ⟨fun hlo hhi => ⟨_, exec_of_taken h ?_, rfl, if_neg (State.reset_ne_true h), decide_eq_true_iff⟩,
    fun hv => exec_of_taken h ?_⟩
  · exact if_pos (decide_eq_true ⟨hlo, hhi⟩)
  · refine if_neg fun hr => ?_
    obtain ⟨hlo, hhi⟩ := of_decide_eq_true hr
    omega

/-- Settles O28. -/
theorem globalSettingWrites : Obligations.GlobalSettingWrites := by
  intro s v h
  have hn := State.reset_ne_true h
  refine ⟨exec_running h _, exec_running h _, fun hv => ?_, fun loc hloc => exec_of_taken h ?_, if_neg hn, if_neg hn,
    if_neg hn, if_neg hn, if_neg hn, if_neg hn⟩
  · have hr : nonzeroInRange v = true := decide_eq_true (Nat.one_le_iff_ne_zero.mpr hv)
    exact ⟨exec_of_taken h (if_pos hr), exec_of_taken h (if_pos hr), exec_of_taken h (if_pos hr),
      exec_of_taken h (if_pos hr)⟩
  · fin_cases hloc <;> rfl

/-! ### Pointers and status locations (section 11.6) -/

section Status

variable {s : State} {v : Byte}

theorem viewselOf_queue {k : Fin 8} (h : v.toNat = k.val) : viewselOf v = some (.queue k) := by
  have hk : v.toNat ≤ 7 := h ▸ Nat.le_of_lt_succ k.isLt
  rw [viewselOf, dif_pos hk]
  exact congrArg (some ∘ ViewSel.queue) (Fin.ext h)

theorem viewselOf_stack {k : Fin 4} (h : v.toNat = 16 + k.val) : viewselOf v = some (.stack k) := by
  have hk := k.isLt
  rw [viewselOf, dif_neg (by omega), dif_pos (by omega)]
  exact congrArg (some ∘ ViewSel.stack) (Fin.ext (show v.toNat - 16 = k.val by omega))

theorem viewselOf_none (h : (7 < v.toNat ∧ v.toNat < 16) ∨ 19 < v.toNat) : viewselOf v = none := by
  rw [viewselOf, dif_neg (by omega), dif_neg (by omega)]

theorem logidxOf_some {k : Fin 9} (h : v.toNat = k.val) : logidxOf v = some k := by
  have hk : v.toNat ≤ 8 := h ▸ Nat.le_of_lt_succ k.isLt
  rw [logidxOf, dif_pos hk]
  exact congrArg some (Fin.ext h)

theorem logidxOf_none (h : 8 < v.toNat) : logidxOf v = none := dif_neg (Nat.not_le.mpr h)

/-- A write to BPTR, VIEWSEL or LOGIDX goes by what the value names. -/
theorem State.writeLocation_bptr {b : Branch} (h : bptrOf v = some b) :
    s.writeLocation 0x03 v = { s with window.bptr := b }.withWstat .ok := by
  simp [State.writeLocation, State.writeOther, profileFieldAt, h]

theorem State.writeLocation_bptr_range (h : bptrOf v = none) : s.writeLocation 0x03 v = s.withWstat .range := by
  simp [State.writeLocation, State.writeOther, profileFieldAt, h]

theorem State.writeLocation_viewsel {p : ViewSel} (h : viewselOf v = some p) :
    s.writeLocation 0x1C v = { s with window.viewsel := p }.withWstat .ok := by
  simp [State.writeLocation, State.writeOther, profileFieldAt, h]

theorem State.writeLocation_viewsel_range (h : viewselOf v = none) : s.writeLocation 0x1C v = s.withWstat .range := by
  simp [State.writeLocation, State.writeOther, profileFieldAt, h]

theorem State.writeLocation_logidx {i : Fin 9} (h : logidxOf v = some i) :
    s.writeLocation 0x21 v = { s with log.idx := i }.withWstat .ok := by
  simp [State.writeLocation, State.writeOther, profileFieldAt, h]

theorem State.writeLocation_logidx_range (h : logidxOf v = none) : s.writeLocation 0x21 v = s.withWstat .range := by
  simp [State.writeLocation, State.writeOther, profileFieldAt, h]

theorem branchCode_eq (b : Option Branch) : branchCode b = b.elim 0 fun b => b.val + 1 := by
  cases b <;> rfl

theorem tripCause_elim_lt (c : Option TripCause) : c.elim 0 TripCause.code < 256 := by
  cases c with
  | none => decide
  | some c => exact c.code_lt

theorem BranchState.code_le (st : BranchState) : st.code ≤ 6 := by cases st <;> decide

theorem LoadState.code_le (m : LoadState) : m.code ≤ 3 := by cases m <;> decide

theorem SignState.code_le (st : SignState) : st.code ≤ 4 := by cases st <;> decide

theorem ResultCode.code_le (r : ResultCode) : r.code ≤ 6 := by cases r <;> decide

theorem WriteStatus.code_le (w : WriteStatus) : w.code ≤ 4 := by cases w <;> decide

/-- BSTATE packs the state code and an attempt count of one digit (R15). -/
theorem BranchRec.toNat_bstate {r : BranchRec} (h : r.attempts ≤ 7) :
    r.bstate.toNat = r.state.code + 16 * r.attempts := by
  have := r.state.code_le
  exact toNat_ofNat_byte (by omega)

theorem State.toNat_lmstat (s : State) :
    s.lmstat.toNat =
      s.load.mode.code + 4 * s.load.qualified.toNat + 8 * s.load.supovl.toNat + 16 * s.load.buslo.toNat
        + 32 * s.estop.toNat + 64 * s.load.exhausted.toNat := by
  have := s.load.mode.code_le
  have := s.load.qualified.toNat_le
  have := s.load.supovl.toNat_le
  have := s.load.buslo.toNat_le
  have := s.estop.toNat_le
  have := s.load.exhausted.toNat_le
  simp only [State.lmstat, bitAt_eq]
  rw [toNat_ofNat_byte (by omega)]
  omega

theorem Arbiter.toNat_qstat {a : Arbiter} (hq : a.queue.length ≤ 8) (hc : a.inrushCount ≤ 3) :
    a.qstat.toNat = a.queue.length + 16 * a.inrushCount := toNat_ofNat_byte (by omega)

theorem LoadManager.toNat_sstat {l : LoadManager} (h : l.stack.length ≤ 4) :
    l.sstat.toNat = l.stack.length + 16 * (l.inFlight.elim 0 fun b => b.val + 1) := by
  have := branchCode_le l.inFlight
  rw [← branchCode_eq]
  exact toNat_ofNat_byte (by omega)

theorem Signature.toNat_sigstat (g : Signature) :
    g.sigstat.toNat = g.state.code + 16 * (g.progress.elim 0 fun b => b.val + 1) := by
  have := g.state.code_le
  have := branchCode_le g.progress
  rw [← branchCode_eq]
  exact toNat_ofNat_byte (by omega)

/-- VIEW reads the branch at the selected position of the queue or the stack (R85, R108). -/
theorem State.toNat_view_queue {k : Fin 8} (h : s.window.viewsel = .queue k) :
    s.view.toNat = (s.arbiter.queue[k.val]?).elim 0 fun b => b.val + 1 := by
  rw [State.view, h, ← branchCode_eq]
  exact toNat_ofNat_byte (branchCode_lt _)

theorem State.toNat_view_stack {k : Fin 4} (h : s.window.viewsel = .stack k) :
    s.view.toNat = (s.load.stack[k.val]?).elim 0 fun b => b.val + 1 := by
  rw [State.view, h, ← branchCode_eq]
  exact toNat_ofNat_byte (branchCode_lt _)

end Status

/-- Settles O30. -/
theorem pointerWritesAndStatusReads : Obligations.PointerWritesAndStatusReads := by
  intro s v h
  have hn := State.reset_ne_true h
  have reads {x y : Byte} {n : Nat} (hy : y.toNat = n) : (if s.pins.reset = true then x else y).toNat = n :=
    (congrArg BitVec.toNat (if_neg hn)).trans hy
  refine ⟨exec_running h _, exec_running h _, fun b hb => exec_of_taken h ?_, fun hb => exec_of_taken h ?_,
    fun k hk => exec_of_taken h ?_, fun k hk => exec_of_taken h ?_, fun hk => exec_of_taken h ?_,
    fun k hk => exec_of_taken h ?_, fun hk => exec_of_taken h ?_, if_neg hn, if_neg hn, ?_, ?_, fun k hk => ⟨?_, ?_⟩,
    fun k hk => ⟨?_, ?_⟩, ?_, ?_, ⟨fun ha => ?_, ?_⟩, ?_, fun hq hc => ?_, fun hs => ?_, fun hl => ?_, if_neg hn, ?_,
    ?_, ?_⟩
  · exact State.writeLocation_bptr (branchOf_eq_some.mpr hb)
  · exact State.writeLocation_bptr_range (branchOf_eq_none.mpr hb)
  · exact State.writeLocation_viewsel (viewselOf_queue hk)
  · exact State.writeLocation_viewsel (viewselOf_stack hk)
  · exact State.writeLocation_viewsel_range (viewselOf_none hk)
  · exact State.writeLocation_logidx (logidxOf_some hk)
  · exact State.writeLocation_logidx_range (logidxOf_none hk)
  · exact reads (toNat_ofNat_byte (branchCode_lt (some s.window.bptr)))
  · exact reads (toNat_ofNat_byte (s.log.idx.isLt.trans (by decide)))
  · refine reads ?_
    rw [hk]
    exact toNat_ofNat_byte (k.isLt.trans (by decide))
  · exact reads (State.toNat_view_queue hk)
  · refine reads ?_
    rw [hk]
    exact toNat_ofNat_byte (Nat.add_lt_add_left k.isLt 16 |>.trans (by decide))
  · exact reads (State.toNat_view_stack hk)
  · refine (reads (toNat_ofNat_byte (s.window.result.code_le.trans_lt (by decide)))).trans ?_
    cases s.window.result <;> rfl
  · refine (reads (toNat_ofNat_byte (s.window.wstat.code_le.trans_lt (by decide)))).trans ?_
    cases s.window.wstat <;> rfl
  · refine (reads (BranchRec.toNat_bstate ha)).trans ?_
    cases (s.br s.window.bptr).state <;> rfl
  · refine (reads (toNat_ofNat_byte (tripCause_elim_lt _))).trans ?_
    rcases (s.br s.window.bptr).lastCause with _ | _ | _ | _ | _ <;> rfl
  · refine (reads s.toNat_lmstat).trans ?_
    cases s.load.mode <;> rfl
  · exact reads (Arbiter.toNat_qstat hq hc)
  · exact reads (LoadManager.toNat_sstat hs)
  · exact reads (toNat_ofNat_byte (hl.trans_lt (by decide)))
  · refine (reads s.sig.toNat_sigstat).trans ?_
    cases s.sig.state <;> rfl
  · exact reads (BitVec.toNat_setWidth 8 s.sig.crc)
  · exact reads (toNat_highByte s.sig.crc)

/-! ### Expiries of the detector, dead and settle timers (R41, R44, R49, R51, R61, R64) -/

section Expiries

variable {s : State} {b n : Branch} {f : BranchRec → BranchRec}

theorem State.setBr_updBr (r : BranchRec) : (s.updBr b f).setBr b r = s.setBr b r := by
  simp [State.updBr, State.setBr]

/-- A trip sees the attempt count and the profile of the record, and what the trip makes of it. -/
theorem State.takeTrip_updBr {cause : TripCause} (hr : (f (s.br b)).tripped cause = (s.br b).tripped cause)
    (ha : (f (s.br b)).attempts = (s.br b).attempts) (hp : (f (s.br b)).profile = (s.br b).profile) (ph : Phase) :
    (s.updBr b f).takeTrip b cause ph = s.takeTrip b cause ph := by
  have hbr : (s.updBr b f).br b = f (s.br b) := by rw [State.br_updBr, if_pos rfl]
  unfold State.takeTrip
  simp only [hbr, hr, State.setBr_updBr, tripOffer, ha, hp]

theorem State.updBr_congr {g : BranchRec → BranchRec} (h : f (s.br b) = g (s.br b)) : s.updBr b f = s.updBr b g :=
  congrArg (s.setBr b) h

/-- A running timer of a branch expires. -/
theorem State.expiry_of_running {timer : Timer} {p : Prop} [Decidable p] {u v w : State} (ht : timer ≠ none) (hp : p) :
    (if timer.isNone = true then u else if p then v else w) = v := by
  rw [if_neg (by simpa using ht), if_pos hp]

theorem State.expireOcQualify_trips (hon : (s.br n).state = .on) (ht : (s.br n).ocQualify ≠ none) :
    s.expireOcQualify n = s.takeTrip n .oc .on :=
  (State.expiry_of_running ht (by rw [State.br_updBr, if_pos rfl]; exact hon)).trans
    (State.takeTrip_updBr (BranchRec.tripped_of_on hon none (s.br n).pgLoss .oc) rfl rfl .on)

theorem State.expirePgLoss_trips (hon : (s.br n).state = .on) (ht : (s.br n).pgLoss ≠ none) :
    s.expirePgLoss n = s.takeTrip n .pgloss .on :=
  (State.expiry_of_running ht (by rw [State.br_updBr, if_pos rfl]; exact hon)).trans
    (State.takeTrip_updBr (BranchRec.tripped_of_on hon (s.br n).ocQualify none .pgloss) rfl rfl .on)

theorem State.expireRise_trips (hinrush : (s.br n).state = .inrush) (ht : (s.br n).rise ≠ none)
    (hpg : (s.br n).pgLevel = false) : s.expireRise n = s.takeTrip n .norise .inrush :=
  (State.expiry_of_running ht (by rw [State.br_updBr, if_pos rfl]; exact ⟨hinrush, by simp [hpg]⟩)).trans
    (State.takeTrip_updBr (BranchRec.tripped_of_inrush hinrush none .norise) rfl rfl .inrush)

/-- A completion cancels the blanking timer, running or not. -/
theorem State.complete_updBr_blanking (hinrush : (s.br n).state = .inrush) :
    (s.updBr n fun r => { r with blanking := none }).complete n = s.complete n := by
  have hon : ((fun r : BranchRec => (BranchRec.moveTo { r with blanking := none } .on).startSettle) (s.br n)) =
      ((fun r : BranchRec => (r.moveTo .on).startSettle) (s.br n)) := by
    simp [BranchRec.moveTo, BranchRec.cancelTimers, hinrush]
  have hupd := State.updBr_congr (f := fun r => (BranchRec.moveTo { r with blanking := none } .on).startSettle)
    (g := fun r => (r.moveTo .on).startSettle) hon
  unfold State.complete
  rw [State.updBr_updBr]
  rw [show s.updBr n (fun r => (BranchRec.moveTo { r with blanking := none } .on).startSettle) = _ from hupd]

theorem State.expireBlanking_completes (hinrush : (s.br n).state = .inrush) (ht : (s.br n).blanking ≠ none)
    (hpg : (s.br n).pgLevel = true) : s.expireBlanking n = s.complete n :=
  (State.expiry_of_running ht (by rw [State.br_updBr, if_pos rfl]; exact ⟨hinrush, hpg⟩)).trans
    (State.complete_updBr_blanking hinrush)

/-- A running timer that expires elsewhere stops. -/
theorem State.expiry_elsewhere {timer : Timer} {p : Prop} [Decidable p] {u v w : State} (ht : timer ≠ none) (hp : ¬p) :
    (if timer.isNone = true then u else if p then v else w) = w := by
  rw [if_neg (by simpa using ht), if_neg hp]

end Expiries

/-- Settles O34. -/
theorem qualifyExpiriesTrip : Obligations.QualifyExpiriesTrip := by
  refine fun s n h => ⟨fun hon ht => ⟨_, exec_of_ticking h (f := (·.expireOcQualify n)) rfl rfl, ?_⟩,
    fun hon ht => ⟨_, exec_of_ticking h (f := (·.expirePgLoss n)) rfl rfl, ?_⟩,
    fun hinrush ht hpg => ⟨_, exec_of_ticking h (f := (·.expireRise n)) rfl rfl, ?_⟩⟩
  · rw [State.expireOcQualify_trips hon ht]
    exact State.takeTrip_effect hon .oc
  · rw [State.expirePgLoss_trips hon ht]
    exact State.takeTrip_effect hon .pgloss
  · rw [State.expireRise_trips hinrush ht hpg]
    exact State.takeTrip_effect hinrush .norise

/-- Settles O35. -/
theorem blankingExpiryCompletesWithPowerGood : Obligations.BlankingExpiryCompletesWithPowerGood := by
  refine fun s n h hinrush => ⟨fun ht hpg => ⟨_, exec_of_ticking h (f := (·.expireBlanking n)) rfl rfl, ?_⟩,
    fun ht hpg => ⟨_, exec_of_ticking h (f := (·.expireBlanking n)) rfl ?_, rfl, ?_, ?_⟩,
    fun ht hpg => exec_of_ticking h (f := (·.expireRise n)) rfl ?_⟩
  · rw [State.expireBlanking_completes hinrush ht hpg]
    exact State.complete_effect hinrush
  · exact State.expiry_elsewhere ht (by rw [State.br_updBr, if_pos rfl]; simp [hpg])
  · refine BranchRec.blankingDone_iff.mpr ?_
    rw [(State.br_set s n { s.br n with blanking := none } _ rfl n).trans (if_pos rfl)]
    exact ⟨hinrush, rfl⟩
  · refine State.onOut_eq_true_iff.mpr ⟨h.1, .inl ?_⟩
    rw [(State.br_set s n { s.br n with blanking := none } _ rfl n).trans (if_pos rfl)]
    exact hinrush
  · exact State.expiry_elsewhere ht (by rw [State.br_updBr, if_pos rfl]; simp [hpg])

/-- What changes nothing changes nothing, with CLKIN running or not. -/
theorem exec_of_unticked {s : State} {c : Instr} {f : State → State} (hc : exec c s = .next (s.whenClocked f))
    (hf : f s = s) : exec c s = .next s := by
  rw [hc, State.whenClocked]
  split
  · rfl
  · rw [hf]

/-- Settles O36. -/
theorem expiryOfStoppedTimerDoesNothing : Obligations.ExpiryOfStoppedTimerDoesNothing := by
  have stopped : ∀ {t : Timer} {s u : State}, t = none → (if t.isNone = true then s else u) = s := fun ht =>
    if_pos (by rw [ht]; rfl)
  refine fun s => ⟨fun n => ⟨fun ht => ?_, fun ht => ?_, fun ht => ?_, fun ht => ?_, fun ht => ?_, fun ht => ?_⟩,
    fun ht => ?_, fun ht => ?_, fun ht => ?_, fun ht => ?_, fun ht => ?_, fun ht => ?_⟩
  · exact exec_of_unticked (f := (·.expireOcQualify n)) rfl (stopped ht)
  · exact exec_of_unticked (f := (·.expirePgLoss n)) rfl (stopped ht)
  · exact exec_of_unticked (f := (·.expireBlanking n)) rfl (stopped ht)
  · exact exec_of_unticked (f := (·.expireRise n)) rfl (stopped ht)
  · exact exec_of_unticked (f := (·.expireDead n)) rfl (stopped ht)
  · exact exec_of_unticked (f := (·.expireSettle n)) rfl (stopped ht)
  · refine exec_of_unticked (f := State.expireStagger) rfl ?_
    rw [State.expireStagger, ← ht]
  · exact exec_of_unticked (f := State.expireStressQualify) rfl (stopped ht)
  · exact exec_of_unticked (f := State.expireShedInterval) rfl (stopped ht)
  · exact exec_of_unticked (f := State.expireHold) rfl (stopped ht)
  · exact exec_of_unticked (f := State.expireSpacing) rfl (stopped ht)
  · exact exec_of_unticked (f := State.expireSignature) rfl (stopped ht)

/-- Settles O37. -/
theorem deadExpiryRequestsTheReclose : Obligations.DeadExpiryRequestsTheReclose := by
  intro s n front back h hdead ht hsplit
  refine exec_of_ticking h (f := (·.expireDead n)) rfl ?_
  generalize hu : (s.updBr n fun r => { r with dead := none }) = u
  have hbr : u.br n = { s.br n with dead := none } := by rw [← hu, State.br_updBr, if_pos rfl]
  have hprio : u.priority = s.priority := funext fun c => by
    rw [← hu]
    exact (SequencerChange.updBr s (f := fun r => { r with dead := none }) fun _ => rfl).priority c
  have hsplit : QueueSplit u n front back := by
    obtain ⟨hqueue, hfront, hback⟩ := hsplit
    refine ⟨by rw [← hu]; exact hqueue, fun c hc => ?_, fun c hc => ?_⟩
    · rw [hprio]
      exact hfront c hc
    · rw [hprio]
      exact hback c hc
  have hexp : s.expireDead n = u.joinQueue n := by
    rw [← hu]
    exact State.expiry_of_running ht (by rw [State.br_updBr, if_pos rfl]; exact hdead)
  have hmoved : (u.br n).moveTo .queued = { s.br n with state := .queued, dead := none } := by
    rw [hbr]
    simp [BranchRec.moveTo, BranchRec.cancelTimers, hdead]
  show s.expireDead n = _
  rw [hexp, State.joinQueue_of_split hsplit, hmoved, ← hu]
  simp [State.updBr, State.setBr]

/-- Settles O38. -/
theorem quietTimeEvents : Obligations.QuietTimeEvents := by
  refine fun s h => ⟨fun n hon ht => exec_of_ticking h (f := (·.expireSettle n)) rfl ?_, fun _ => ?_, s.time.ms + 1, ?_,
    ?_⟩
  · refine (State.expiry_of_running ht (by rw [State.br_updBr, if_pos rfl]; exact hon)).trans ?_
    rw [State.updBr_updBr]
    rfl
  · exact exec_of_ticking h (f := State.expireStagger) rfl rfl
  · exact exec_of_ticking h (f := State.takeMsBoundary) rfl rfl
  · exact BitVec.toNat_add s.time.ms 1

/-! ### The grant (R77 to R80) -/

section Grant

variable {s t : State} {b : Branch} {rest : List Branch}

theorem State.grantCondition_eq_true_iff :
    s.grantCondition = true ↔
      s.arbiter.queue ≠ [] ∧ s.arbiter.inrushCount < s.arbiter.slots.toNat ∧ s.arbiter.staggerTimer = none
        ∧ s.load.qualified = false := by
  simp [State.grantCondition, and_assoc]

/-- The stagger timer that a grant starts, running or not (R78). -/
def Arbiter.staggerStart (a : Arbiter) : Timer := if a.stagger = 0 then none else some (a.stagger.toNat * 1000)

/-- The entry to INRUSH, and a trip there, leave the stagger setting and its timer. -/
theorem State.enterInrush_stagger (s : State) (b : Branch) :
    (s.enterInrush b).arbiter.stagger = s.arbiter.stagger
      ∧ (s.enterInrush b).arbiter.staggerTimer = s.arbiter.staggerTimer := by
  unfold State.enterInrush
  dsimp only
  split
  · rw [State.takeTrip_arbiter]
    exact ⟨rfl, rfl⟩
  · exact ⟨rfl, rfl⟩

/-- The state with the head of the queue out of it and a slot taken, before the head moves (R78). -/
def State.headTaken (s : State) (rest : List Branch) : State :=
  { s with arbiter := { s.arbiter with queue := rest, inrushCount := s.arbiter.inrushCount + 1 } }

theorem State.stopStagger_of_stopped (h : s.arbiter.staggerTimer = none) :
    { s with arbiter.staggerTimer := none } = s := by
  rw [← h]

/-- A grant is the entry of the head to INRUSH with the stagger timer started. -/
theorem State.takeGrant_of_queue (hq : s.arbiter.queue = b :: rest) (ht : s.arbiter.staggerTimer = none) :
    s.takeGrant =
      { (s.headTaken rest).enterInrush b with arbiter.staggerTimer := s.arbiter.staggerStart } := by
  obtain ⟨hstagger, htimer⟩ := State.enterInrush_stagger (s.headTaken rest) b
  have hgrant : s.takeGrant =
      if ((s.headTaken rest).enterInrush b).arbiter.stagger = 0 then (s.headTaken rest).enterInrush b
      else { (s.headTaken rest).enterInrush b with
             arbiter.staggerTimer := some (staggerTicks ((s.headTaken rest).enterInrush b).arbiter) } := by
    unfold State.takeGrant
    rw [hq]
    rfl
  rw [hgrant, staggerTicks, hstagger]
  split
  next h0 =>
    rw [show s.arbiter.staggerStart = none from if_pos h0]
    exact (State.stopStagger_of_stopped (htimer.trans ht)).symm
  next h0 =>
    rw [show s.arbiter.staggerStart = some (s.arbiter.stagger.toNat * 1000) from if_neg h0]
    rfl

/-- The stagger timer has no part in a trip. -/
theorem TripEffect.withStaggerTimer {cause : TripCause} {ph : Phase} (h : TripEffect s t b cause ph) (timer : Timer) :
    TripEffect { s with arbiter.staggerTimer := timer } { t with arbiter.staggerTimer := timer } b cause ph := by
  unfold TripEffect at h ⊢
  rw [h]
  rfl

/-- A grant command taken with its condition. -/
theorem exec_grant (h : s.clocked) (hq : s.arbiter.queue = b :: rest)
    (hfree : s.arbiter.inrushCount < s.arbiter.slots.toNat) (ht : s.arbiter.staggerTimer = none)
    (hqual : s.load.qualified = false) : exec .grant s = .next s.takeGrant :=
  exec_of_ticking h (f := fun s => if s.grantCondition then s.takeGrant else s) rfl
    (if_pos (State.grantCondition_eq_true_iff.mpr ⟨by simp [hq], hfree, ht, hqual⟩))

/-- A trip takes ONn away, and one in INRUSH gives its slot back. -/
theorem TripEffect.onOut {cause : TripCause} {ph : Phase} (h : TripEffect s t b cause ph) : t.onOut b = false := by
  have hbr := State.br_set s b _ t (congrArg State.branches h) b
  rw [if_pos rfl] at hbr
  refine eq_false_of_ne_true fun hon => ?_
  have harmed := (State.onOut_eq_true_iff.mp hon).2
  rw [hbr] at harmed
  split at harmed <;> simp at harmed

end Grant

/-- Settles O39. -/
theorem grantClosesTheQueueHead : Obligations.GrantClosesTheQueueHead := by
  refine fun s h => ⟨fun b rest hq hfree ht hqual hqueued hsc => ?_, fun hno => ?_⟩
  · rw [exec_grant h hq hfree ht hqual, State.takeGrant_of_queue hq ht,
      State.enterInrush_released (s := s.headTaken rest) hqueued hsc]
    rfl
  · refine exec_of_ticking h (f := fun s => if s.grantCondition then s.takeGrant else s) rfl (if_neg fun hg => ?_)
    obtain ⟨hqueue, hfree, ht, hqual⟩ := State.grantCondition_eq_true_iff.mp hg
    rcases hno with hempty | hslots | hstagger | hstress
    · exact hqueue hempty
    · exact absurd hfree (Nat.not_lt.mpr hslots)
    · exact hstagger ht
    · exact nomatch hqual.symm.trans hstress

/-- Settles O40. -/
theorem grantOntoShortTripsWithoutPulse : Obligations.GrantOntoShortTripsWithoutPulse := by
  intro s b rest h hq hfree ht hqual hqueued hsc
  have tripped := (State.enterInrush_asserted (s := s.headTaken rest) hqueued hsc).withStaggerTimer
    s.arbiter.staggerStart
  rw [← State.takeGrant_of_queue hq ht] at tripped
  exact ⟨_, exec_grant h hq hfree ht hqual, tripped, tripped.onOut, congrArg (·.arbiter.inrushCount) tripped⟩

/-! ### Stress inputs and the load manager's timers (R87 to R105) -/

/-- Settles O42. -/
theorem stressAssertionQualifies : Obligations.StressAssertionQualifies := by
  have rise := State.qualifiedRise_effect fun _ _ => State.victim_eq_some_iff
  have taken : ∀ {s u : State} {i : StressInput}, s.running → s.pins.stressPin i = false →
      State.takeStressAssertion { s with pins := s.pins.setStressPin i true } i = u →
      exec (.stressInputAssertion i) s = .next u := fun h hp hu =>
    exec_of_taken h ((if_neg (by simp [hp])).trans hu)
  refine fun s h => ⟨fun hp => ⟨fun ho => ?_, fun ho hq => ?_, fun ho hq => ⟨_, ?_, rise _⟩⟩,
    fun hp => ⟨fun ho => ?_, fun ho hq => ?_, fun ho hq => ⟨_, ?_, rise _⟩⟩⟩
  all_goals refine taken h hp ?_
  · exact if_pos ho
  · exact (if_neg (ne_true_of_eq_false ho)).trans (if_neg hq)
  · exact (if_neg (ne_true_of_eq_false ho)).trans (if_pos hq)
  · exact if_pos ho
  · exact (if_neg (ne_true_of_eq_false ho)).trans (if_neg hq)
  · exact (if_neg (ne_true_of_eq_false ho)).trans (if_pos hq)

/-- What a fall of raw stress leaves (R88, R89, R92). -/
theorem State.rawFall_eq (s : State) :
    s.rawFall =
      if s.load.qualified = true then
        if s.load.mode = .shedding then
          { s with load.qualifyTimer := none, load.qualified := false, load.mode := .hold, load.shedTimer := none,
                   load.exhausted := false, load.holdTimer := some (s.load.holdTime.toNat * 100000) }
        else { s with load.qualifyTimer := none, load.qualified := false }
      else { s with load.qualifyTimer := none } := by
  unfold State.rawFall
  simp only [State.qualifiedFall_eq]

/-- Settles O43. -/
theorem stressReleaseEndsTheEpisode : Obligations.StressReleaseEndsTheEpisode := by
  intro s i h hp
  have hpin : s.pins.stressPin i = true := by cases i <;> exact hp
  have taken : ∀ {u : State}, State.takeStressRelease { s with pins := s.pins.setStressPin i false } i = u →
      exec (.stressInputRelease i) s = .next u := fun hu => exec_of_taken h ((if_neg (by simp [hpin])).trans hu)
  cases i <;>
  · refine ⟨fun ho => taken (if_pos ho), fun ho hq => taken ?_, fun ho hq hm => taken ?_, fun ho hq hm => taken ?_⟩
    all_goals refine (if_neg (ne_true_of_eq_false ho)).trans ((State.rawFall_eq _).trans ?_)
    · exact if_neg (ne_true_of_eq_false hq)
    · exact (if_pos hq).trans (if_neg hm)
    · exact (if_pos hq).trans (if_pos hm)

/-- Settles O44. -/
theorem stressQualifyExpiryRaisesQualifiedStress : Obligations.StressQualifyExpiryRaisesQualifiedStress := fun _ h ht =>
  ⟨_, exec_of_ticking h (f := State.expireStressQualify) rfl (if_neg (by simpa using ht)),
    State.qualifiedRise_effect (fun _ _ => State.victim_eq_some_iff) _⟩

/-- Settles O45. -/
theorem shedIntervalExpiryTakesOneShedStep : Obligations.ShedIntervalExpiryTakesOneShedStep := by
  intro s h ht hm
  have kept : (State.shedStep { s with load.shedTimer := none }).load.shedivl = s.load.shedivl :=
    (congrArg (·.load.shedivl) (State.shedStep_change (s := { s with load.shedTimer := none })).frame :)
  refine ⟨_, _, exec_of_ticking h (f := State.expireShedInterval) rfl (State.expiry_of_running ht hm),
    State.shedStep_effect fun _ => State.victim_eq_some_iff, ?_⟩
  rw [State.startShedTimer, shedIntervalTicks, kept]
  rfl

/-- A branch that is not the bottom of a full stack is what the victim's own move leaves it. -/
theorem State.br_shedVictim_of_not_dropped {s : State} {v b : Branch}
    (hb : 4 ≤ s.load.stack.length → s.load.stack.getLast? ≠ some b) :
    (s.shedVictim v).br b = if b = v then (s.br v).moveTo .shed else s.br b :=
  State.br_shedVictim.trans (if_neg fun hdrop => hb hdrop.1 hdrop.2)

/-- Settles O46. -/
theorem shedStepTakesAVictimIfThereIsOne : Obligations.ShedStepTakesAVictimIfThereIsOne := by
  have withVictim : ∀ {s : State} {v : Branch}, s.victim = some v → s.shedStep = s.shedVictim v := fun hv => by
    rw [State.shedStep, hv]
  have without : ∀ {s : State}, s.victim = none → ∀ b, s.shedStep.br b = s.br b := fun hv b => by
    rw [State.shedStep, hv]
    exact State.br_exhaust
  refine fun s => ⟨fun v => State.victim_eq_some_iff, State.victim_eq_none_iff, fun v hv hlast => ?_, without,
    fun b hb hlast => ?_⟩
  · have hon : (s.br v).state = .on := (State.victim_eq_some_iff.mp hv).1
    rw [withVictim hv, State.br_shedVictim_of_not_dropped hlast, if_pos rfl, State.shedVictim_load]
    exact ⟨by simp [BranchRec.moveTo, BranchRec.cancelTimers, hon, BranchRec.withoutOnTimers], rfl⟩
  · cases hv : s.victim with
    | none => exact without hv b
    | some v =>
      rw [withVictim hv, State.br_shedVictim_of_not_dropped hlast]
      exact if_neg fun hbv : b = v => hb (hbv ▸ hv)

/-- Settles O47. -/
theorem restoreStepPopsTheTop : Obligations.RestoreStepPopsTheTop := by
  intro s h
  have hold : ∀ {u : State}, s.load.mode = .hold → s.load.holdTimer ≠ none →
      State.restoreOrCalm { s with load.holdTimer := none } = u → exec .holdExpiry s = .next u := fun hm ht hu =>
    exec_of_ticking h (f := State.expireHold) rfl ((State.expiry_of_running ht hm).trans hu)
  have spacing : ∀ {u : State}, s.load.mode = .restoring → s.load.spacingTimer ≠ none →
      State.restoreOrCalm { s with load.spacingTimer := none } = u → exec .restoreSpacingExpiry s = .next u :=
    fun hm ht hu => exec_of_ticking h (f := State.expireSpacing) rfl ((State.expiry_of_running ht hm).trans hu)
  refine ⟨fun hm ht => ⟨fun hempty => hold hm ht ?_, fun b rest front back hs hb hsplit => ⟨_, hold hm ht rfl, ?_⟩⟩,
    fun hm ht => ⟨fun hempty => spacing hm ht ?_, fun b rest front back hs hb hsplit => ⟨_, spacing hm ht rfl, ?_⟩⟩⟩
  · exact State.restoreOrCalm_empty (s := { s with load.holdTimer := none }) hempty
  · exact State.restoreOrCalm_effect (s := { s with load.holdTimer := none }) hs hb hsplit
  · exact State.restoreOrCalm_empty (s := { s with load.spacingTimer := none }) hempty
  · exact State.restoreOrCalm_effect (s := { s with load.spacingTimer := none }) hs hb hsplit

/-! ### The fold of a record (R151) -/

theorem crcStep_eq (r : Half) :
    crcStep r = if 0x8000 ≤ r.toNat then (r <<< 1) ^^^ 0x1021 else r <<< 1 := by
  simp [crcStep, BitVec.msb_eq_decide]

theorem crcSteps_eq_iterate (n : Nat) (r : Half) : crcSteps n r = crcStep^[n] r := by
  induction n generalizing r with
  | zero => rfl
  | succ n ih => exact ih (crcStep r)

/-- A byte in the upper half of a word. -/
theorem upperHalf_eq (v : Byte) : v.setWidth 16 <<< 8 = BitVec.ofNat 16 (256 * v.toNat) := by
  have := v.isLt
  refine BitVec.eq_of_toNat_eq ?_
  rw [BitVec.toNat_shiftLeft, BitVec.toNat_setWidth, BitVec.toNat_ofNat, Nat.shiftLeft_eq]
  omega

theorem crcByte_eq (r : Half) (v : Byte) : crcByte r v = crcStep^[8] (r ^^^ BitVec.ofNat 16 (256 * v.toNat)) := by
  rw [crcByte, crcSteps_eq_iterate, upperHalf_eq]

theorem recordBytes_eq (b : Branch) (p : Profile) :
    recordBytes b p =
      [BitVec.ofNat 8 (b.val + 1), p.priority, p.budget, p.deadbase,
        BitVec.ofNat 8 (p.escalation.toNat + 2 * p.autoStart.toNat), p.ocqual, p.blank, p.rise, p.settle] := by
  have hoptions : p.fetch .options = BitVec.ofNat 8 (p.escalation.toNat + 2 * p.autoStart.toNat) :=
    eq_ofNat_of_toNat_eq (Profile.toNat_fetch_options p)
  unfold recordBytes
  rw [hoptions]
  rfl

/-! ### The record expiry and the run (R150, R152) -/

section Run

variable {s : State} {b next : Branch}

theorem State.expireSignature_advances (hrun : s.sig.state = .running) (ht : s.sig.timer ≠ none)
    (hb : s.sig.progress = some b) (hlt : b < s.sig.last) (hnext : next.val = b.val + 1) :
    s.expireSignature =
      { s with
        sig.crc := crcRecord s.sig.crc b (s.br b).profile, sig.progress := some next, sig.timer := some 16 } := by
  have hadvance : (⟨b.val + 1, Nat.lt_of_le_of_lt (Fin.lt_def.mp hlt) s.sig.last.isLt⟩ : Branch) = next :=
    Fin.ext hnext.symm
  unfold State.expireSignature
  rw [if_neg (by simpa using ht), hrun, hb, ← hadvance]
  exact dif_pos hlt

theorem State.expireSignature_ends (hrun : s.sig.state = .running) (ht : s.sig.timer ≠ none)
    (hb : s.sig.progress = some b) (hle : s.sig.last ≤ b) :
    s.expireSignature =
      { s with
        sig := { s.sig with crc := crcRecord s.sig.crc b (s.br b).profile, state := .done, progress := none,
                            timer := none }
        irq.pending.sign := true } := by
  unfold State.expireSignature
  rw [if_neg (by simpa using ht), hrun, hb]
  exact dif_neg (Fin.not_lt.mpr hle)

theorem run_succ_of_step {M : Host.Core} {u v : M.State} (n : Nat) (h : M.step u = .next v) :
    M.run (n + 1) u = M.run n v := by
  simp only [Host.Core.run, h]

/-- A run takes the command at the front of the queue and goes on. -/
theorem run_of_exec {c : Instr} {rest : List Instr} {t : State} (n : Nat)
    (h : exec c { s with pending := rest } = .next t) :
    Host.Core.run core (n + 1) { s with pending := c :: rest } = Host.Core.run core n t :=
  run_succ_of_step (M := core) n h

/-- The branches from number `first` on, `k` of them, in ascending number. -/
def branchesFrom (first k : Nat) : List Branch :=
  (List.finRange 8).filter fun b => decide (first ≤ b.val ∧ b.val < first + k)

theorem branchesFrom_succ {k : Nat} (h : b.val + k < 8) :
    branchesFrom b.val (k + 1) = b :: branchesFrom (b.val + 1) k := by
  have all : ∀ b k : Fin 8,
      branchesFrom b.val (k.val + 1) = b :: branchesFrom (b.val + 1) k.val ∨ 8 ≤ b.val + k.val := by
    decide
  exact (all b ⟨k, by omega⟩).resolve_right (by simpa using h)

theorem branchesFrom_zero (first : Nat) : branchesFrom first 0 = [] :=
  List.filter_eq_nil_iff.mpr fun b _ => by simp

/-- The register after the records of the listed branches. -/
def State.crcOf (s : State) (crc : Half) (l : List Branch) : Half :=
  l.foldl (fun c b => crcRecord c b (s.br b).profile) crc

@[simp] theorem State.crcOf_nil (s : State) (crc : Half) : s.crcOf crc [] = crc := rfl

theorem State.crcOf_cons (s : State) (crc : Half) (b : Branch) (l : List Branch) :
    s.crcOf crc (b :: l) = s.crcOf (crcRecord crc b (s.br b).profile) l := rfl

/-- The operation over the listed records is done, with no command waiting. -/
def State.signed (s : State) (l : List Branch) : State :=
  { s with
    sig := { s.sig with crc := s.crcOf s.sig.crc l, state := .done, progress := none, timer := none }
    irq.pending.sign := true
    pending := [] }

/-- The operation over the records behind the first, started with the fold of the first. -/
theorem State.signed_cons (s : State) (b : Branch) (l : List Branch) (progress : Option Branch) (timer : Timer) :
    s.signed (b :: l) =
      State.signed { s with sig.crc := crcRecord s.sig.crc b (s.br b).profile, sig.progress := progress,
                            sig.timer := timer } l := by
  rw [State.signed, State.crcOf_cons]
  rfl

/-- One expiry per record from the progress branch to the last ends the operation with the fold of these records. -/
theorem run_recordExpiries (k : Nat) (h : s.clocked) (hrun : s.sig.state = .running) (ht : s.sig.timer ≠ none)
    (hb : s.sig.progress = some b) (hlast : s.sig.last.val = b.val + k) :
    Host.Core.run core (k + 1) { s with pending := List.replicate (k + 1) .signatureRecordExpiry } =
      .next (s.signed (branchesFrom b.val (k + 1))) := by
  have hlt := s.sig.last.isLt
  rw [branchesFrom_succ (by omega)]
  induction k generalizing s b with
  | zero =>
    rw [branchesFrom_zero]
    have last : exec .signatureRecordExpiry { s with pending := [] } = .next (s.signed [b]) := by
      rw [State.signed, State.crcOf_cons, State.crcOf_nil]
      exact exec_of_ticking (s := { s with pending := [] }) h (f := State.expireSignature) rfl
        (State.expireSignature_ends (s := { s with pending := [] }) hrun ht hb (Fin.le_def.mpr hlast.le))
    exact run_of_exec (s := s) (rest := []) 0 last
  | succ k ih =>
    obtain ⟨next, hnext⟩ : ∃ next : Branch, next.val = b.val + 1 := ⟨⟨b.val + 1, by omega⟩, rfl⟩
    have hmore : b < s.sig.last := Fin.lt_def.mpr (by omega)
    have first := exec_of_ticking (s := { s with pending := List.replicate (k + 1) .signatureRecordExpiry })
      (c := .signatureRecordExpiry) h (f := State.expireSignature) rfl
      (State.expireSignature_advances (s := { s with pending := List.replicate (k + 1) .signatureRecordExpiry })
        hrun ht hb hmore hnext)
    rw [List.replicate_succ, run_of_exec (s := s) (k + 1) first]
    have rest := ih (s := { s with sig.crc := crcRecord s.sig.crc b (s.br b).profile, sig.progress := some next,
                                   sig.timer := some 16 })
      (b := next) h hrun nofun rfl (hlast.trans (by omega)) hlt
    rw [← hnext, branchesFrom_succ (by omega), State.signed_cons s b _ (some next) (some 16)]
    exact rest

end Run

/-- Settles O49. -/
theorem signatureExpiryFoldsOneRecord : Obligations.SignatureExpiryFoldsOneRecord := by
  refine ⟨fun c b p => ?_, fun s b h hrun ht hb => ⟨fun next hlt hnext => ?_, fun hle => ?_⟩⟩
  · have hstep : crcStep = fun r : Half => if 0x8000 ≤ r.toNat then (r <<< 1) ^^^ 0x1021 else r <<< 1 :=
      funext crcStep_eq
    have hbyte : crcByte = fun (r : Half) (v : Byte) => crcStep^[8] (r ^^^ BitVec.ofNat 16 (256 * v.toNat)) :=
      funext fun r => funext (crcByte_eq r)
    rw [crcRecord, recordBytes_eq, hbyte, hstep]
  · exact exec_of_ticking h (f := State.expireSignature) rfl (State.expireSignature_advances hrun ht hb hlt hnext)
  · exact exec_of_ticking h (f := State.expireSignature) rfl (State.expireSignature_ends hrun ht hb hle)

/-- Settles O50: SIGN starts the operation over the clamped range, and the expiries fold it record by record. -/
theorem signatureRunFoldsTheWholeRange : Obligations.SignatureRunFoldsTheWholeRange := by
  intro s first k h hidle harg0 hlow hhigh hk
  obtain ⟨m, rfl⟩ : ∃ m, k = m + 1 := ⟨k - 1, by omega⟩
  obtain ⟨more, hmore⟩ : ∃ more : Branch, s.window.arg1.toNat = more.val + 1 :=
    ⟨⟨s.window.arg1.toNat - 1, by omega⟩, by simp; omega⟩
  obtain ⟨last, hlast⟩ : ∃ last : Branch, last.val = min (first.val + more.val) 7 :=
    ⟨⟨min (first.val + more.val) 7, by omega⟩, rfl⟩
  have sign : ∀ rest, exec .sign { s with pending := rest } =
      .next (State.withResult
        { s with
          sig := { state := .running, first := first, last := last, progress := some first, crc := 0xFFFF,
                   timer := some 16 }
          pending := rest } .done) := fun rest => by
    have taken := State.signCommand_done (s := { s with pending := rest }) (branchArgument_eq_some.mpr harg0)
      (branchArgument_eq_some.mpr hmore) hidle
    rw [State.startSignature_eq hlast] at taken
    exact exec_of_taken (s := { s with pending := rest }) h.1 taken
  refine ⟨_, (run_of_exec (s := s) (m + 1) (sign _)).trans (run_recordExpiries (s := State.withResult
    { s with sig := { state := .running, first := first, last := last, progress := some first, crc := 0xFFFF,
                      timer := some 16 } } .done) (b := first) m h rfl nofun rfl ?_),
    rfl, rfl, rfl, rfl, rfl, rfl, rfl⟩
  show last.val = first.val + m
  omega

/-! ### Reset (R122) -/

theorem State.br_reset (b : Branch) : State.reset.br b = BranchRec.default := by
  simp [State.br, State.reset]

/-- Settles O51. -/
theorem resetIsLawful : Obligations.ResetIsLawful := by
  have idle : ∀ b, State.reset.Idle b := fun b =>
    State.idle_of_state (congrArg BranchRec.state (State.br_reset b)) ⟨nofun, nofun, nofun⟩
  refine ⟨fun b => ?_, ⟨fun b => ?_, State.reset_globalsLawful⟩, State.admissionLawful_of_idle idle rfl rfl rfl, nofun,
    fun _ => ⟨fun b => ?_, rfl, rfl, rfl⟩, ⟨nofun, nofun, nofun, nofun⟩, fun b => ?_, ?_, Digest.default_lawful,
    ⟨iff_of_false nofun nofun, nofun, fun _ => iff_of_false nofun nofun, nofun⟩, State.reset_timeLawful, nofun⟩
  · rw [State.br_reset]
    exact BranchRec.default_lawful false false false
  · rw [State.br_reset]
    exact Profile.default_lawful
  · rw [State.br_reset]
    simp [State.reset, Pins.default, BranchRec.default]
  · rw [State.br_reset]
    exact BranchRec.detectorLawful_of_unarmed (by simp [BranchRec.default])
  · exact ⟨Nat.zero_le _, rfl, fun _ hr => absurd hr List.not_mem_nil⟩

end Sys2Proof.Machine
